-- ==== Sys2Proof/Word.lean ====
section
/-! DEFINITION. The word types of the klib AES-256 core and their plainest constructions (spec/00_scope.md R8, R9). -/

namespace Sys2Proof

/-- A byte, bit 0 least significant (R8, R9). -/
abbrev Byte := BitVec 8

/-- A byte sequence: a finite list of bytes, index 0 first (R8). -/
abbrev Bytes := List Byte

/-- A 32-bit register or command word, bit 0 least significant (R9, R27, R80). -/
abbrev Word := BitVec 32

/-- `Rep(v, n)`: `n` bytes of value `v` (R8). -/
def rep (v : Byte) (n : Nat) : Bytes := List.replicate n v

/-- `Zeros(n)`: `n` zero bytes (R8). -/
def zeros (n : Nat) : Bytes := rep 0 n

end Sys2Proof
end

