-- ==== Sys2Proof/Syntax.lean ====
section
/-! DEFINITION. The closed enumerations of the spec, the fields of a command word, and the instruction type: one constructor
per row of spec/opcode_table.json. -/

namespace Sys2Proof

/-- `AesMode` (R12): there is no seventh mode. -/
inductive Mode where
  | ecb | cbc | ofb | cfb | ctr | xts
  deriving DecidableEq, Repr

/-- `PaddingMode` (R13). `none` is the scheme called None or NONE. -/
inductive Scheme where
  | none | pkcs7 | iso7816_4 | ansi923 | iso10126 | zero
  deriving DecidableEq, Repr

/-- `IvPolicy` (R15, R84). -/
inductive Policy where
  | explicit | flag0 | flag1
  deriving DecidableEq, Repr

/-- The flag overload's policy for the value of its boolean (R84, R91). -/
def Policy.ofFlag (flag : Bool) : Policy := if flag then .flag1 else .flag0

/-- The error kinds of R231, in the order of their codes 1 to 10. -/
inductive ErrorKind where
  /-- R232: KEXP, AESE, AESD with `KEY_LEN` other than 32. -/
  | invalidKeyLength
  /-- R233: a mode that needs an IV runs with `IV_LEN` other than 16. -/
  | invalidIvLength
  /-- R234: a length that must be a multiple of 16 is not. -/
  | unalignedInput
  /-- R235: `Unpad` finds malformed padding. -/
  | invalidPadding
  /-- R236: an embedded IV is expected and the input is shorter than 16 bytes. -/
  | missingIv
  /-- R237: `B64Decode` rejects its input. -/
  | invalidBase64
  /-- R238: a reserved value in an operand field of a well-formed word. -/
  | unsupportedModeOption
  /-- R239: XTS with 1 to 15 bytes; ENCB or DECB with `IN_LEN` other than 16. -/
  | invalidInputLength
  /-- R240: the word is not a well-formed command. -/
  | illegalCommand
  /-- R241: ENCB, DECB, MENC or MDEC without a schedule. -/
  | noSchedule
  deriving DecidableEq, Repr

/-- The fifteen opcodes of R81. -/
inductive Op where
  | kexp | encb | decb | kclr | pad | unpad | menc | mdec | ivre | ivrd | ivpp | b64e | b64d | aese | aesd
  deriving DecidableEq, Repr

/-- The fields of a command word, format `CMD32` (R80). -/
structure CommandFields where
  /-- Bits 7:0. -/
  op : Byte
  /-- Bits 10:8. -/
  mode : BitVec 3
  /-- Bit 11, reserved. -/
  bit11 : Bool
  /-- Bits 14:12. -/
  pad : BitVec 3
  /-- Bit 15, reserved. -/
  bit15 : Bool
  /-- Bits 17:16. -/
  ivp : BitVec 2
  /-- Bit 18. -/
  b64 : Bool
  /-- Bits 31:19, reserved. -/
  high : BitVec 13
  deriving DecidableEq, Repr

/-- The commands, one constructor per row of spec/opcode_table.json (R86, R213). Their operands are members of the closed
enumerations, so a term of this type is well-formed by construction: a reserved code is refused by the decoder (R88). -/
inductive Instr where
  | kexp
  | encb
  | decb
  | kclr
  | padNone
  | padPkcs7
  | padIso7816_4
  | padAnsi923
  | padIso10126
  | padZero
  | unpadNone
  | unpadPkcs7
  | unpadIso7816_4
  | unpadAnsi923
  | unpadIso10126
  | unpadZero
  | mencEcb
  | mencCbc
  | mencOfb
  | mencCfb
  | mencCtr
  | mencXts
  | mdecEcb
  | mdecCbc
  | mdecOfb
  | mdecCfb
  | mdecCtr
  | mdecXts
  | ivre (mode : Mode) (policy : Policy)
  | ivrd (mode : Mode) (policy : Policy)
  | ivpp
  | b64e
  | b64d
  | aeseX (mode : Mode) (scheme : Scheme)
  | aeseF (flag : Bool) (mode : Mode) (scheme : Scheme)
  | aeseXB64 (mode : Mode) (scheme : Scheme)
  | aeseFB64 (flag : Bool) (mode : Mode) (scheme : Scheme)
  | aesdX (mode : Mode) (scheme : Scheme)
  | aesdF (flag : Bool) (mode : Mode) (scheme : Scheme)
  | aesdXB64 (mode : Mode) (scheme : Scheme)
  | aesdFB64 (flag : Bool) (mode : Mode) (scheme : Scheme)
  deriving DecidableEq, Repr

/-- The row of PAD for a scheme (R154). -/
def Instr.padOf : Scheme → Instr
  | .none => .padNone
  | .pkcs7 => .padPkcs7
  | .iso7816_4 => .padIso7816_4
  | .ansi923 => .padAnsi923
  | .iso10126 => .padIso10126
  | .zero => .padZero

/-- The row of UNPAD for a scheme (R155). -/
def Instr.unpadOf : Scheme → Instr
  | .none => .unpadNone
  | .pkcs7 => .unpadPkcs7
  | .iso7816_4 => .unpadIso7816_4
  | .ansi923 => .unpadAnsi923
  | .iso10126 => .unpadIso10126
  | .zero => .unpadZero

/-- The row of MENC for a mode (R177). -/
def Instr.mencOf : Mode → Instr
  | .ecb => .mencEcb
  | .cbc => .mencCbc
  | .ofb => .mencOfb
  | .cfb => .mencCfb
  | .ctr => .mencCtr
  | .xts => .mencXts

/-- The row of MDEC for a mode (R178). -/
def Instr.mdecOf : Mode → Instr
  | .ecb => .mdecEcb
  | .cbc => .mdecCbc
  | .ofb => .mdecOfb
  | .cfb => .mdecCfb
  | .ctr => .mdecCtr
  | .xts => .mdecXts

/-- The row of AESE for its operands (R211, R213). -/
def Instr.aeseOf (mode : Mode) (scheme : Scheme) : Policy → Bool → Instr
  | .explicit, false => .aeseX mode scheme
  | .explicit, true => .aeseXB64 mode scheme
  | .flag0, false => .aeseF false mode scheme
  | .flag0, true => .aeseFB64 false mode scheme
  | .flag1, false => .aeseF true mode scheme
  | .flag1, true => .aeseFB64 true mode scheme

/-- The row of AESD for its operands (R212, R213). -/
def Instr.aesdOf (mode : Mode) (scheme : Scheme) : Policy → Bool → Instr
  | .explicit, false => .aesdX mode scheme
  | .explicit, true => .aesdXB64 mode scheme
  | .flag0, false => .aesdF false mode scheme
  | .flag0, true => .aesdFB64 false mode scheme
  | .flag1, false => .aesdF true mode scheme
  | .flag1, true => .aesdFB64 true mode scheme

/-- The eight entry points of the source's interface (R91, R213), with the arguments each takes
and the defaults of R91. -/
inductive EntryPoint where
  | encryptIv (data key iv : Bytes) (mode : Mode := .cbc) (scheme : Scheme := .pkcs7)
  | encryptFlag (data key : Bytes) (useIv : Bool := true) (mode : Mode := .cbc) (scheme : Scheme := .pkcs7)
  | decryptIv (data key iv : Bytes) (mode : Mode := .cbc) (scheme : Scheme := .pkcs7)
  | decryptFlag (data key : Bytes) (hasIv : Bool := true) (mode : Mode := .cbc) (scheme : Scheme := .pkcs7)
  | encryptBase64Iv (data key iv : Bytes) (mode : Mode := .cbc) (scheme : Scheme := .pkcs7)
  | encryptBase64Flag (data key : Bytes) (useIv : Bool := true) (mode : Mode := .cbc) (scheme : Scheme := .pkcs7)
  | decryptBase64Iv (text key iv : Bytes) (mode : Mode := .cbc) (scheme : Scheme := .pkcs7)
  | decryptBase64Flag (text key : Bytes) (hasIv : Bool := true) (mode : Mode := .cbc) (scheme : Scheme := .pkcs7)
  deriving DecidableEq, Repr

end Sys2Proof
end

