-- ==== Sys2Proof/Decode.lean ====
section
/-! DEFINITION. Decoding a command word (R80 to R88, steps 1 to 3 of R87), and after it the encoder, written from the rows of
spec/opcode_table.json (R86, R213). -/

namespace Sys2Proof

/-- The bits `hi` down to `lo` of a word as the fields of format `CMD32` (R80). -/
def fieldsOf (w : Word) : CommandFields where
  op := w.extractLsb' 0 8
  mode := w.extractLsb' 8 3
  bit11 := w.getLsbD 11
  pad := w.extractLsb' 12 3
  bit15 := w.getLsbD 15
  ivp := w.extractLsb' 16 2
  b64 := w.getLsbD 18
  high := w.extractLsb' 19 13

/-- R81: the opcode of an `OP` byte; the other 241 values are illegal. -/
def opOf? (b : Byte) : Option Op :=
  match b.toNat with
  | 0x01 => some .kexp
  | 0x02 => some .encb
  | 0x03 => some .decb
  | 0x04 => some .kclr
  | 0x10 => some .pad
  | 0x11 => some .unpad
  | 0x20 => some .menc
  | 0x21 => some .mdec
  | 0x30 => some .ivre
  | 0x31 => some .ivrd
  | 0x32 => some .ivpp
  | 0x40 => some .b64e
  | 0x41 => some .b64d
  | 0x50 => some .aese
  | 0x51 => some .aesd
  | _ => none

/-- R82. -/
def modeOf? (code : BitVec 3) : Option Mode :=
  match code.toNat with
  | 0 => some .ecb
  | 1 => some .cbc
  | 2 => some .ofb
  | 3 => some .cfb
  | 4 => some .ctr
  | 5 => some .xts
  | _ => none

/-- R83. -/
def schemeOf? (code : BitVec 3) : Option Scheme :=
  match code.toNat with
  | 0 => some .none
  | 1 => some .pkcs7
  | 2 => some .iso7816_4
  | 3 => some .ansi923
  | 4 => some .iso10126
  | 5 => some .zero
  | _ => none

/-- R84: `0b01` is reserved. -/
def policyOf? (code : BitVec 2) : Option Policy :=
  match code.toNat with
  | 0 => some .explicit
  | 2 => some .flag0
  | 3 => some .flag1
  | _ => none

/-- The column `mask` of R86. -/
def opMask : Op → Word
  | .kexp | .encb | .decb | .kclr | .ivpp | .b64e | .b64d => 0xFFFFFFFF
  | .pad | .unpad => 0xFFFF8FFF
  | .menc | .mdec => 0xFFFFF8FF
  | .ivre | .ivrd => 0xFFFCF8FF
  | .aese | .aesd => 0xFFF888FF

/-- The column `match` of R86. -/
def opMatch : Op → Word
  | .kexp => 0x00000001
  | .encb => 0x00000002
  | .decb => 0x00000003
  | .kclr => 0x00000004
  | .pad => 0x00000010
  | .unpad => 0x00000011
  | .menc => 0x00000020
  | .mdec => 0x00000021
  | .ivre => 0x00000030
  | .ivrd => 0x00000031
  | .ivpp => 0x00000032
  | .b64e => 0x00000040
  | .b64d => 0x00000041
  | .aese => 0x00000050
  | .aesd => 0x00000051

/-- The instruction an opcode and its operands name. An opcode drops the operands it does not take (R86). -/
def instrOf (mode : Mode) (scheme : Scheme) (policy : Policy) (b64 : Bool) : Op → Instr
  | .kexp => .kexp
  | .encb => .encb
  | .decb => .decb
  | .kclr => .kclr
  | .pad => .padOf scheme
  | .unpad => .unpadOf scheme
  | .menc => .mencOf mode
  | .mdec => .mdecOf mode
  | .ivre => .ivre mode policy
  | .ivrd => .ivrd mode policy
  | .ivpp => .ivpp
  | .b64e => .b64e
  | .b64d => .b64d
  | .aese => .aeseOf mode scheme policy b64
  | .aesd => .aesdOf mode scheme policy b64

/-- Step 3 of R87. A field the opcode does not take is zero here (step 2), and zero is a legal code of every field, so the
three codes can be looked at whatever the opcode. -/
def decodeOperands (f : CommandFields) (op : Op) : Except ErrorKind Instr :=
  match modeOf? f.mode, schemeOf? f.pad, policyOf? f.ivp with
  | some mode, some scheme, some policy => .ok (instrOf mode scheme policy f.b64 op)
  | _, _, _ => .error .unsupportedModeOption

/-- Steps 1 to 3 of R87: total on every word, rejecting by name. -/
def decode (w : Word) : Except ErrorKind Instr :=
  match opOf? (fieldsOf w).op with
  | none => .error .illegalCommand
  | some op =>
    if w &&& opMask op = opMatch op then decodeOperands (fieldsOf w) op else .error .illegalCommand

/-- The instruction in an `Except`, if it is one. -/
def instr? : Except ErrorKind Instr → Option Instr
  | .ok i => some i
  | .error _ => none

/-- The host's view of the decoder: a row's word, its bits numbered as spec/opcode_table.json numbers them. Every row has
32 bits (R92), and how a word's bytes travel is the platform's (R66, R69). -/
def decodeTableWord (nbits w : Nat) : Option Instr := instr? (decode (BitVec.ofNat 32 (w % 2 ^ nbits)))

/-- R82. -/
def Mode.code : Mode → Word
  | .ecb => 0
  | .cbc => 1
  | .ofb => 2
  | .cfb => 3
  | .ctr => 4
  | .xts => 5

/-- R83. -/
def Scheme.code : Scheme → Word
  | .none => 0
  | .pkcs7 => 1
  | .iso7816_4 => 2
  | .ansi923 => 3
  | .iso10126 => 4
  | .zero => 5

/-- R84. -/
def Policy.code : Policy → Word
  | .explicit => 0
  | .flag0 => 2
  | .flag1 => 3

/-- The bits of `MODE` and `PAD` in a word (R80). -/
def operandWord (mode : Mode) (scheme : Scheme) : Word := mode.code <<< 8 ||| scheme.code <<< 12

/-- The free bit `f` of the flag rows of R213: bit 16. -/
def flagWord (flag : Bool) : Word := if flag then 0x00010000 else 0

/-- The column `match` of an instruction's row in spec/opcode_table.json. -/
def rowMatch : Instr → Word
  | .kexp => 0x00000001
  | .encb => 0x00000002
  | .decb => 0x00000003
  | .kclr => 0x00000004
  | .padNone => 0x00000010
  | .padPkcs7 => 0x00001010
  | .padIso7816_4 => 0x00002010
  | .padAnsi923 => 0x00003010
  | .padIso10126 => 0x00004010
  | .padZero => 0x00005010
  | .unpadNone => 0x00000011
  | .unpadPkcs7 => 0x00001011
  | .unpadIso7816_4 => 0x00002011
  | .unpadAnsi923 => 0x00003011
  | .unpadIso10126 => 0x00004011
  | .unpadZero => 0x00005011
  | .mencEcb => 0x00000020
  | .mencCbc => 0x00000120
  | .mencOfb => 0x00000220
  | .mencCfb => 0x00000320
  | .mencCtr => 0x00000420
  | .mencXts => 0x00000520
  | .mdecEcb => 0x00000021
  | .mdecCbc => 0x00000121
  | .mdecOfb => 0x00000221
  | .mdecCfb => 0x00000321
  | .mdecCtr => 0x00000421
  | .mdecXts => 0x00000521
  | .ivre _ _ => 0x00000030
  | .ivrd _ _ => 0x00000031
  | .ivpp => 0x00000032
  | .b64e => 0x00000040
  | .b64d => 0x00000041
  | .aeseX _ _ => 0x00000050
  | .aeseF _ _ _ => 0x00020050
  | .aeseXB64 _ _ => 0x00040050
  | .aeseFB64 _ _ _ => 0x00060050
  | .aesdX _ _ => 0x00000051
  | .aesdF _ _ _ => 0x00020051
  | .aesdXB64 _ _ => 0x00040051
  | .aesdFB64 _ _ _ => 0x00060051

/-- The column `mask` of an instruction's row in spec/opcode_table.json. -/
def rowMask : Instr → Word
  | .ivre _ _ | .ivrd _ _ => 0xFFFCF8FF
  | .aeseX _ _ | .aeseXB64 _ _ | .aesdX _ _ | .aesdXB64 _ _ => 0xFFFF88FF
  | .aeseF _ _ _ | .aeseFB64 _ _ _ | .aesdF _ _ _ | .aesdFB64 _ _ _ => 0xFFFE88FF
  | .kexp | .encb | .decb | .kclr | .ivpp | .b64e | .b64d
  | .padNone | .padPkcs7 | .padIso7816_4 | .padAnsi923 | .padIso10126 | .padZero
  | .unpadNone | .unpadPkcs7 | .unpadIso7816_4 | .unpadAnsi923 | .unpadIso10126 | .unpadZero
  | .mencEcb | .mencCbc | .mencOfb | .mencCfb | .mencCtr | .mencXts
  | .mdecEcb | .mdecCbc | .mdecOfb | .mdecCfb | .mdecCtr | .mdecXts => 0xFFFFFFFF

/-- The bits of an instruction's word outside its row's mask. -/
def rowOperands : Instr → Word
  | .ivre mode policy | .ivrd mode policy => operandWord mode .none ||| policy.code <<< 16
  | .aeseX mode scheme | .aeseXB64 mode scheme | .aesdX mode scheme | .aesdXB64 mode scheme => operandWord mode scheme
  | .aeseF flag mode scheme | .aeseFB64 flag mode scheme => operandWord mode scheme ||| flagWord flag
  | .aesdF flag mode scheme | .aesdFB64 flag mode scheme => operandWord mode scheme ||| flagWord flag
  | .kexp | .encb | .decb | .kclr | .ivpp | .b64e | .b64d
  | .padNone | .padPkcs7 | .padIso7816_4 | .padAnsi923 | .padIso10126 | .padZero
  | .unpadNone | .unpadPkcs7 | .unpadIso7816_4 | .unpadAnsi923 | .unpadIso10126 | .unpadZero
  | .mencEcb | .mencCbc | .mencOfb | .mencCfb | .mencCtr | .mencXts
  | .mdecEcb | .mdecCbc | .mdecOfb | .mdecCfb | .mdecCtr | .mdecXts => 0

/-- The word of an instruction: its row's fixed bits and its operands (R86, R89). -/
def encode (i : Instr) : Word := rowMatch i ||| rowOperands i

end Sys2Proof
end

