-- ==== Sys2Proof/Config.lean ====
section
/-! DEFINITION. What an implementation fixes (R6, R7) and the free values of the model (R16). -/

namespace Sys2Proof.Config

/-- `BLOCK`, the cipher and padding block size in bytes (R6). -/
abbrev blockBytes : Nat := 16

/-- `KEY_BYTES`, the only legal key length (R6). -/
abbrev keyBytes : Nat := 32

/-- `IV_BYTES`, the only legal IV length (R6). -/
abbrev ivBytes : Nat := 16

/-- `NR`, the number of rounds (R6). -/
abbrev rounds : Nat := 14

/-- `NK`, the key length in words (R6). -/
abbrev keyWords : Nat := 8

/-- `KS_BYTES`, the size of a key schedule (R6). -/
abbrev scheduleBytes : Nat := 240

/-- `KEY_CAP`, the capacity of KEYBUF (R6). -/
abbrev keyCap : Nat := 64

/-- `IV_CAP`, the capacity of IVBUF (R6). -/
abbrev ivCap : Nat := 32

/-- The free bytes of the random source: byte number `k` ever drawn (R16, U2, U3; log entry 2). -/
opaque randByte : Nat → Byte

/-- The open parameter `XTS_K2`, a function from 32 bytes to 32 bytes (R7, R173), as plain data: the keys whose tweak key
is another than the key itself, each with its tweak key. The empty list is the default, the identity. There are finitely many
keys, so every function is such a list, and a given one needs the keys that are used (log entry 3). -/
abbrev XtsK2 := List (Bytes × Bytes)

/-- The open parameters a model takes as arguments (R7): they belong to the implementation and no step changes them. -/
structure Params where
  /-- `XTS_K2`. -/
  xtsK2 : XtsK2
  /-- `BUF_CAP`, the capacity of INBUF and OUTBUF; `none` is unbounded. -/
  bufCap : Option Nat
  deriving DecidableEq, Repr

/-- The defaults of R7. -/
def Params.default : Params := { xtsK2 := [], bufCap := none }

end Sys2Proof.Config
end

