-- ==== Sys2Proof/Machine/State.lean ====
section
/-! DEFINITION. The state of the core (spec/10_state.md R20 to R42), the host's transactions on it (spec/20_memory.md R61 to
R65), and the two reason types of a step that stops. -/

namespace Sys2Proof.Machine

/-- Nothing in this hardware stops it: no error is fatal (R245), every word has a behaviour (R88 (d)) and nothing is `stuck`
(spec/93 section 2). So no step faults, and there is no reason to name: an error kind is a next state (R243). -/
inductive Fault where
  deriving DecidableEq, Repr

/-- Why a step would have no meaning. -/
inductive Refusal where
  /-- Raised by an arm of `exec` for an instruction without a meaning. Safe: the model stops. No arm raises it: every row
  of the table has its meaning. -/
  | notModelled (mnemonic : String)
  deriving DecidableEq, Repr

/-- The four byte buffers (R20, R60). -/
inductive Buffer where
  | keyBuf | ivBuf | inBuf | outBuf
  deriving DecidableEq, Repr

/-- What the host can ask of the core: the five transactions of R61, and a write to a numbered register, which for register 0
is `H_CMD` and for every other register is refused (R27). -/
inductive HostTxn where
  /-- `H_LOAD buf, s` (R62). -/
  | load (buf : Buffer) (bytes : Bytes)
  /-- `H_READBUF buf` (R63). -/
  | readBuf (buf : Buffer)
  /-- `H_RDREG n` (R64). -/
  | readReg (n : Nat)
  /-- `H_CMD w` (R65). -/
  | cmd (w : Word)
  /-- A host write to register `n` (R27, R28). -/
  | writeReg (n : Nat) (w : Word)
  /-- `H_RESET` (R261). -/
  | reset
  deriving DecidableEq, Repr

/-- What the last transaction returned to the host. -/
inductive HostReply where
  /-- No transaction has been performed. -/
  | none
  /-- The transaction took effect and returns nothing. -/
  | done
  /-- The transaction was refused: it had no effect and returns nothing (spec/93, treatment `refuse`). -/
  | refused
  /-- `H_READBUF` returned a buffer's bytes (R63). -/
  | bytes (s : Bytes)
  /-- `H_RDREG` returned a register's value (R64). -/
  | value (v : Nat)
  deriving DecidableEq, Repr

/-- The working registers of a command (R40). -/
structure Scratch where
  /-- `STATE`, the AES state array. -/
  state : Bytes
  /-- `RND`, the round counter. -/
  rnd : Nat
  /-- `BLK`, the block index. -/
  blk : Nat
  /-- `CHAIN`. -/
  chain : Bytes
  /-- `KSTREAM`. -/
  kstream : Bytes
  /-- `TWEAK`. -/
  tweak : Bytes
  deriving DecidableEq, Repr

/-- Scratch is zero between commands (R40, R42, R87). -/
def Scratch.zero : Scratch where
  state := zeros 16
  rnd := 0
  blk := 0
  chain := zeros 16
  kstream := zeros 16
  tweak := zeros 16

/-- The whole state (R20), the implementation's parameters (R7), and the model's own fields: the host's pending
transactions, its last reply, and the random source. -/
structure State where
  /-- `KEYBUF` (R21). -/
  keyBuf : Bytes
  /-- `IVBUF` (R22). -/
  ivBuf : Bytes
  /-- `INBUF` (R23). -/
  inBuf : Bytes
  /-- `OUTBUF` (R24). -/
  outBuf : Bytes
  /-- `CMD`, register 0 (R28). -/
  cmd : Word
  /-- `DONE` (R31). -/
  done : Bool
  /-- `ERRCODE`, bits 7:0 of register 2 (R30). -/
  errCode : Byte
  /-- `EMBED` (R32). -/
  embed : Bool
  /-- `KS`, the key schedule (R37). -/
  ks : Bytes
  /-- `KS2`, the tweak key schedule (R37). -/
  ks2 : Bytes
  /-- `KS_VALID` (R38). -/
  ksValid : Bool
  /-- The scratch registers (R40). -/
  scratch : Scratch
  /-- The open parameters (R7, R41); no step changes them. -/
  params : Config.Params
  /-- The model's own: the transactions the host has still to perform, the next one first (R61, R70; log entry 1). -/
  pending : List HostTxn
  /-- The model's own: what the last transaction returned (log entry 1). -/
  reply : HostReply
  /-- The model's own: bytes the random source delivers next, before the free ones (R7, R16; log entry 2). -/
  entropy : Bytes
  /-- The model's own: how many bytes have been drawn (R16; log entry 2). -/
  draws : Nat
  deriving DecidableEq, Repr

/-- The state right after reset (R42, R260), with the default parameters (R7), nothing asked by the host and nothing drawn. -/
def State.reset : State where
  keyBuf := []
  ivBuf := []
  inBuf := []
  outBuf := []
  cmd := 0
  done := false
  errCode := 0
  embed := false
  ks := zeros Config.scheduleBytes
  ks2 := zeros Config.scheduleBytes
  ksValid := false
  scratch := Scratch.zero
  params := Config.Params.default
  pending := []
  reply := .none
  entropy := []
  draws := 0

end Sys2Proof.Machine
end

