-- ==== Sys2Proof/Machine/Flags.lean ====
section
/-! DEFINITION. The error codes (spec/60_exceptions.md R231) and the STATUS word (spec/10_state.md R29 to R33). -/

namespace Sys2Proof.Machine

/-- `code(K)` (R231). -/
def errorCode : ErrorKind → Byte
  | .invalidKeyLength => 1
  | .invalidIvLength => 2
  | .unalignedInput => 3
  | .invalidPadding => 4
  | .missingIv => 5
  | .invalidBase64 => 6
  | .unsupportedModeOption => 7
  | .invalidInputLength => 8
  | .illegalCommand => 9
  | .noSchedule => 10

/-- `ERR` is 1 exactly when `ERRCODE` is not 0 (R30). -/
def State.err (s : State) : Bool := s.errCode != 0

/-- `BUSY` always reads 0 (R33). -/
def State.busy (_ : State) : Bool := false

/-- A flag at a bit position of a register word. -/
def flagAt (flag : Bool) (bit : Nat) : Word := if flag then BitVec.ofNat 32 (2 ^ bit) else 0

/-- `STATUS`, register 1 (R29): bits 31:5 read 0. -/
def State.status (s : State) : Word :=
  flagAt s.done 0 ||| flagAt s.err 1 ||| flagAt s.ksValid 2 ||| flagAt s.embed 3 ||| flagAt s.busy 4

end Sys2Proof.Machine
end

