-- ==== Sys2Proof/Machine/Ops.lean ====
section
/-! DEFINITION. The named operations: on byte sequences (R8, R11), on the random source (R16), on the schedule (R38), and the
wrapper every command runs in (spec/30_encoding.md R87), with the error entry of spec/60_exceptions.md R243 as one
operation. -/

namespace Sys2Proof.Machine

/-- A length fits a capacity; an absent capacity is unbounded (R7, R62). -/
def fits (len : Nat) : Option Nat → Bool
  | none => true
  | some cap => len ≤ cap

/-- The capacity of a buffer (R6, R7, R62). -/
def State.capacity (s : State) : Buffer → Option Nat
  | .keyBuf => some Config.keyCap
  | .ivBuf => some Config.ivCap
  | .inBuf => s.params.bufCap
  | .outBuf => s.params.bufCap

/-- What a buffer holds (R20). -/
def State.buffer (s : State) : Buffer → Bytes
  | .keyBuf => s.keyBuf
  | .ivBuf => s.ivBuf
  | .inBuf => s.inBuf
  | .outBuf => s.outBuf

/-- The form of the core's memory: its four buffers are byte sequences (R25) within their capacities (R62). A list of bytes
is canonical by itself: equal contents are equal lists, and no index beyond the length has a value. -/
def Memory.wf (s : State) : Bool :=
  fits s.keyBuf.length (s.capacity .keyBuf) && fits s.ivBuf.length (s.capacity .ivBuf) &&
  fits s.inBuf.length (s.capacity .inBuf) && fits s.outBuf.length (s.capacity .outBuf)

/-- `XTS_K2` as the function from a key to its tweak key that the parameter lists (R7, R173): the first entry for the key, if
it gives 32 bytes, else the key itself. -/
def xtsK2 : Config.XtsK2 → Bytes → Bytes
  | [], key => key
  | (k, tweakKey) :: rest, key => if k = key ∧ tweakKey.length = Config.keyBytes then tweakKey else xtsK2 rest key

/-- `MemRead(buf, i, n)`: `n` bytes from index `i` (R11, R74). -/
def memRead (buf : Bytes) (i n : Nat) : Bytes := (buf.drop i).take n

/-- `Trunc(s, n)`: the first `n` bytes (R8). -/
def trunc (s : Bytes) (n : Nat) : Bytes := s.take n

/-- `a XOR b` on two sequences of equal length (R8). -/
def xorBytes (a b : Bytes) : Bytes := List.zipWith (· ^^^ ·) a b

/-- `s[i]` (R8); every rule that uses it has checked `i < |s|` first. -/
def byteAt (s : Bytes) (i : Nat) : Byte := s.getD i 0

/-- The answer `Rand(n)` would give now (R16): any `n` bytes. The bytes the environment has set come first, free bytes after
them (log entry 2). -/
def State.rand (s : State) (n : Nat) : Bytes :=
  (List.range n).map fun k => s.entropy.getD k (Config.randByte (s.draws + k))

/-- The random source after a draw of `n` bytes (R16): the next draw is independent of this one. -/
def State.drawn (s : State) (n : Nat) : State := { s with entropy := s.entropy.drop n, draws := s.draws + n }

/-- "Destroyed" (R39): KS and KS2 all zero, KS_VALID 0. -/
def State.destroySchedule (s : State) : State :=
  { s with ks := zeros Config.scheduleBytes, ks2 := zeros Config.scheduleBytes, ksValid := false }

/-- What a command's rule leaves: the new values of what it writes, and its result bytes or the kind it raises (R87 step 4). -/
abbrev RuleResult := State × Except ErrorKind Bytes

/-- Step 5 of R87: `MemWrite(OUTBUF, res)`, ERRCODE 0, DONE 1, scratch zero. -/
def State.commit (s : State) (res : Bytes) : State :=
  { s with outBuf := res, errCode := 0, done := true, scratch := Scratch.zero }

/-- Error entry, `fail K` of R87 (R243). `saved` is the state before the command's rule, whose IVBUF, EMBED, KS, KS2 and
KS_VALID come back; `after` is where the rule stopped, of which only the draws it took remain (R215: they are lost). A
facade command that passed decode destroys the schedule (R214). -/
def State.takeError (saved : State) (facade : Bool) (k : ErrorKind) (after : State) : State :=
  let t := { saved with
    entropy := after.entropy, draws := after.draws
    outBuf := [], errCode := errorCode k, done := true, scratch := Scratch.zero }
  if facade then t.destroySchedule else t

/-- Steps 4 and 5 of R87: run a command's rule, then commit or fail. -/
def runCommand (facade : Bool) (rule : State → RuleResult) (s : State) : Host.Outcome State Fault Refusal :=
  match rule s with
  | (t, .ok res) => .next (t.commit res)
  | (t, .error k) => .next (s.takeError facade k t)

/-- A rule that writes nothing but its result (R121, R154, R177 and others: "Writes: OUTBUF, ERRCODE, DONE only"). -/
def pureRule (f : State → Except ErrorKind Bytes) (s : State) : RuleResult := (s, f s)

end Sys2Proof.Machine
end

