-- ==== Sys2Proof/Machine/Operands.lean ====
section
/-! DEFINITION. The operands of a command: the predicates on a mode (spec/00_scope.md R14), where padding applies
(spec/41_padding_engine.md R156), and the split of data into 16-byte blocks (spec/42_mode_driver.md R160). -/

namespace Sys2Proof.Machine

/-- `NeedsIv(m)` (R14). -/
def needsIv : Mode → Bool
  | .ecb => false
  | .cbc | .ofb | .cfb | .ctr | .xts => true

/-- `StreamMode(m)` (R14). -/
def streamMode : Mode → Bool
  | .ofb | .cfb | .ctr => true
  | .ecb | .cbc | .xts => false

/-- `BlockMode(m)` (R14). -/
def blockMode : Mode → Bool
  | .ecb | .cbc | .xts => true
  | .ofb | .cfb | .ctr => false

/-- `PadApplies(mode, scheme)` (R156). -/
def padApplies : Mode → Scheme → Bool
  | .ecb, _ => true
  | .cbc, _ => true
  | .ofb, _ => false
  | .cfb, _ => false
  | .ctr, _ => false
  | .xts, .none => false
  | .xts, .pkcs7 => true
  | .xts, .iso7816_4 => true
  | .xts, .ansi923 => true
  | .xts, .iso10126 => true
  | .xts, .zero => true

/-- Aligned: a multiple of 16, zero included (R67). -/
def aligned (len : Nat) : Bool := len % Config.blockBytes == 0

/-- `nb`, the number of blocks of `len` bytes, a partial last one included (R160). -/
def blockCount (len : Nat) : Nat := (len + 15) / Config.blockBytes

/-- `X[j]`, block `j` of the data: 16 bytes, or what is left (R160). -/
def blockAt (data : Bytes) (j : Nat) : Bytes := memRead data (Config.blockBytes * j) Config.blockBytes

/-- The blocks of the data in index order (R160, R179). -/
def blocks (data : Bytes) : List Bytes := (List.range (blockCount data.length)).map (blockAt data)

end Sys2Proof.Machine
end

