-- ==== Sys2Proof/Machine/Base64.lean ====
section
/-! DEFINITION. The Base64 Codec (spec/44_base64_codec.md) and the commands B64E and B64D. -/

namespace Sys2Proof.Machine

/-- The padding character `=` (R200). -/
abbrev padChar : Byte := 0x3D

/-- `Chr(v)`, the character code of a 6-bit value (R200). -/
def b64Chr (v : Nat) : Byte :=
  if v ≤ 25 then BitVec.ofNat 8 (0x41 + v)
  else if v ≤ 51 then BitVec.ofNat 8 (0x61 + (v - 26))
  else if v ≤ 61 then BitVec.ofNat 8 (0x30 + (v - 52))
  else if v = 62 then 0x2B
  else 0x2F

/-- `Val(c)`, defined for exactly the 64 value characters (R200). -/
def b64Val (c : Byte) : Option Nat :=
  let n := c.toNat
  if 0x41 ≤ n ∧ n ≤ 0x5A then some (n - 0x41)
  else if 0x61 ≤ n ∧ n ≤ 0x7A then some (n - 0x61 + 26)
  else if 0x30 ≤ n ∧ n ≤ 0x39 then some (n - 0x30 + 52)
  else if n = 0x2B then some 62
  else if n = 0x2F then some 63
  else none

/-- The 24-bit number of a group of three bytes, the first most significant (R201). -/
def group24 (a b c : Byte) : Nat := a.toNat * 2 ^ 16 + b.toNat * 2 ^ 8 + c.toNat

/-- The character for bits `6k+5 .. 6k` of a 24-bit number (R201). -/
def sextet (v k : Nat) : Byte := b64Chr (v / 2 ^ (6 * k) % 64)

/-- `B64Encode(data)`, three bytes at a time (R201). -/
def b64Encode : Bytes → Bytes
  | [] => []
  | [a] =>
    let v := group24 a 0 0
    [sextet v 3, sextet v 2, padChar, padChar]
  | [a, b] =>
    let v := group24 a b 0
    [sextet v 3, sextet v 2, sextet v 1, padChar]
  | a :: b :: c :: rest =>
    let v := group24 a b c
    sextet v 3 :: sextet v 2 :: sextet v 1 :: sextet v 0 :: b64Encode rest

/-- How many padding characters a group ends in; only the last group may (R202). -/
def padChars (last : Bool) (g2 g3 : Byte) : Nat :=
  if last = true ∧ g3 = padChar then (if g2 = padChar then 2 else 1) else 0

/-- The value of a character that must be one of the 64 (R202). -/
def needVal (c : Byte) : Except ErrorKind Nat :=
  match b64Val c with
  | some v => .ok v
  | none => .error .invalidBase64

/-- One group of four characters, `np` of them padding (R202). -/
def decodeGroup (np : Nat) (g0 g1 g2 g3 : Byte) : Except ErrorKind Bytes := do
  let v0 ← needVal g0
  let v1 ← needVal g1
  let v2 ← if np < 2 then needVal g2 else .ok 0
  let v3 ← if np < 1 then needVal g3 else .ok 0
  let v := v0 * 2 ^ 18 + v1 * 2 ^ 12 + v2 * 2 ^ 6 + v3
  .ok (trunc [BitVec.ofNat 8 (v / 2 ^ 16), BitVec.ofNat 8 (v / 2 ^ 8), BitVec.ofNat 8 v] (3 - np))

/-- The groups of a text in order (R202). -/
def decodeGroups : Bytes → Except ErrorKind Bytes
  | g0 :: g1 :: g2 :: g3 :: rest => do
    let bytes ← decodeGroup (padChars rest.isEmpty g2 g3) g0 g1 g2 g3
    let more ← decodeGroups rest
    .ok (bytes ++ more)
  | _ => .ok []

/-- `B64Decode(text)` (R202). -/
def b64Decode (text : Bytes) : Except ErrorKind Bytes :=
  if text.length % 4 ≠ 0 then .error .invalidBase64 else decodeGroups text

/-- The result of B64E (R203): it never fails. -/
def b64eResult (s : State) : Except ErrorKind Bytes := .ok (b64Encode s.inBuf)

/-- The result of B64D (R204). -/
def b64dResult (s : State) : Except ErrorKind Bytes := b64Decode s.inBuf

/-- B64E (R203). -/
def execB64e (s : State) : Host.Outcome State Fault Refusal := runCommand false (pureRule b64eResult) s

/-- B64D (R204). -/
def execB64d (s : State) : Host.Outcome State Fault Refusal := runCommand false (pureRule b64dResult) s

end Sys2Proof.Machine
end

