-- ==== Sys2Proof/Machine/Iv.lean ====
section
/-! DEFINITION. The IV Manager (spec/43_iv_manager.md): the two resolutions, prepending, and the commands IVRE, IVRD, IVPP. -/

namespace Sys2Proof.Machine

/-- `ResolveIvEnc(mode, policy)` (R191): what it writes to IVBUF and EMBED, and its draw of 16 bytes under FLAG1. -/
def resolveIvEnc (mode : Mode) (policy : Policy) (s : State) : State :=
  if needsIv mode then
    match policy with
    | .explicit => { s with embed := false }
    | .flag1 => { s.drawn Config.ivBytes with ivBuf := s.rand Config.ivBytes, embed := true }
    | .flag0 => { s with ivBuf := [], embed := false }
  else { s with embed := false }

/-- `ResolveIvDec(mode, policy, data)` (R192): IVBUF and EMBED, and the remaining input or `MissingIv`. -/
def resolveIvDec (mode : Mode) (policy : Policy) (data : Bytes) (s : State) : RuleResult :=
  if needsIv mode then
    match policy with
    | .explicit => ({ s with embed := false }, .ok data)
    | .flag1 =>
      if data.length < Config.ivBytes then (s, .error .missingIv)
      else ({ s with ivBuf := memRead data 0 Config.ivBytes, embed := false }, .ok (data.drop Config.ivBytes))
    | .flag0 => ({ s with ivBuf := [], embed := false }, .ok data)
  else ({ s with embed := false }, .ok data)

/-- Prepend the IV when it is to be embedded (R195; step 5 of R211). -/
def prependIv (s : State) (data : Bytes) : Bytes := if s.embed then s.ivBuf ++ data else data

/-- The rule of IVRE (R193): it never fails. -/
def ivreRule (mode : Mode) (policy : Policy) (s : State) : RuleResult := (resolveIvEnc mode policy s, .ok [])

/-- The rule of IVRD (R194). -/
def ivrdRule (mode : Mode) (policy : Policy) (s : State) : RuleResult := resolveIvDec mode policy s.inBuf s

/-- The result of IVPP (R195): it never fails. -/
def ivppResult (s : State) : Except ErrorKind Bytes := .ok (prependIv s s.inBuf)

/-- IVRE (R193). -/
def execIvre (mode : Mode) (policy : Policy) (s : State) : Host.Outcome State Fault Refusal :=
  runCommand false (ivreRule mode policy) s

/-- IVRD (R194). -/
def execIvrd (mode : Mode) (policy : Policy) (s : State) : Host.Outcome State Fault Refusal :=
  runCommand false (ivrdRule mode policy) s

/-- IVPP (R195). -/
def execIvpp (s : State) : Host.Outcome State Fault Refusal := runCommand false (pureRule ivppResult) s

end Sys2Proof.Machine
end

