-- ==== Sys2Proof/Machine/Cipher.lean ====
section
/-! DEFINITION. The Block Cipher Core (spec/40_block_cipher_core.md): round stages, key expansion, EncryptBlock, DecryptBlock,
and the commands KEXP, ENCB, DECB, KCLR. A state of the cipher is the block's own 16-byte sequence (R113). -/

namespace Sys2Proof.Machine

/-- `SubBytes(s)` (R106). -/
def subBytes (s : Bytes) : Bytes := s.map sbox

/-- `InvSubBytes(s)` (R107). -/
def invSubBytes (s : Bytes) : Bytes := s.map invSbox

/-- The source index of each byte of `ShiftRows` (R108, written out). -/
def shiftRowsIndex : List Nat := [0, 5, 10, 15, 4, 9, 14, 3, 8, 13, 2, 7, 12, 1, 6, 11]

/-- The source index of each byte of `InvShiftRows` (R109, written out). -/
def invShiftRowsIndex : List Nat := [0, 13, 10, 7, 4, 1, 14, 11, 8, 5, 2, 15, 12, 9, 6, 3]

/-- `ShiftRows(s)` (R108). -/
def shiftRows (s : Bytes) : Bytes := shiftRowsIndex.map (byteAt s)

/-- `InvShiftRows(s)` (R109). -/
def invShiftRows (s : Bytes) : Bytes := invShiftRowsIndex.map (byteAt s)

/-- One column of `MixColumns` (R110). -/
def mixColumn (a0 a1 a2 a3 : Byte) : Bytes :=
  [gmul a0 2 ^^^ gmul a1 3 ^^^ a2 ^^^ a3,
   a0 ^^^ gmul a1 2 ^^^ gmul a2 3 ^^^ a3,
   a0 ^^^ a1 ^^^ gmul a2 2 ^^^ gmul a3 3,
   gmul a0 3 ^^^ a1 ^^^ a2 ^^^ gmul a3 2]

/-- One column of `InvMixColumns` (R111). -/
def invMixColumn (a0 a1 a2 a3 : Byte) : Bytes :=
  [gmul a0 0x0e ^^^ gmul a1 0x0b ^^^ gmul a2 0x0d ^^^ gmul a3 0x09,
   gmul a0 0x09 ^^^ gmul a1 0x0e ^^^ gmul a2 0x0b ^^^ gmul a3 0x0d,
   gmul a0 0x0d ^^^ gmul a1 0x09 ^^^ gmul a2 0x0e ^^^ gmul a3 0x0b,
   gmul a0 0x0b ^^^ gmul a1 0x0d ^^^ gmul a2 0x09 ^^^ gmul a3 0x0e]

/-- `MixColumns(s)`, column by column (R110). -/
def mixColumns : Bytes → Bytes
  | a0 :: a1 :: a2 :: a3 :: rest => mixColumn a0 a1 a2 a3 ++ mixColumns rest
  | _ => []

/-- `InvMixColumns(s)`, column by column (R111). -/
def invMixColumns : Bytes → Bytes
  | a0 :: a1 :: a2 :: a3 :: rest => invMixColumn a0 a1 a2 a3 ++ invMixColumns rest
  | _ => []

/-- Round key `r`, `KS[16r .. 16r+15]` (R37). -/
def roundKey (ks : Bytes) (r : Nat) : Bytes := memRead ks (16 * r) 16

/-- `AddRoundKey(s, KS, r)` (R112). -/
def addRoundKey (s ks : Bytes) (r : Nat) : Bytes := xorBytes s (roundKey ks r)

/-- `RotWord` (R114). -/
def rotWord : Bytes → Bytes
  | b :: rest => rest ++ [b]
  | [] => []

/-- `SubWord` (R114). -/
def subWord (w : Bytes) : Bytes := w.map sbox

/-- `Rcon(j) = 2^(j-1)` (R114). -/
def rcon (j : Nat) : Byte := BitVec.ofNat 8 (2 ^ (j - 1))

/-- The word `t` that the expansion mixes into word number `i`, from word `i - 1` (R115). -/
def scheduleMix (i : Nat) (t : Bytes) : Bytes :=
  if i % 8 = 0 then xorBytes (subWord (rotWord t)) [rcon (i / 8), 0, 0, 0]
  else if i % 8 = 4 then subWord t
  else t

/-- `w[i]` from the words before it, `i` being how many there are (R115). -/
def nextWord (ws : List Bytes) : Bytes :=
  xorBytes (ws.getD (ws.length - 8) []) (scheduleMix ws.length (ws.getD (ws.length - 1) []))

/-- Append the next `n` words (R115). -/
def expandWords : Nat → List Bytes → List Bytes
  | 0, ws => ws
  | n + 1, ws => expandWords n (ws ++ [nextWord ws])

/-- `w[0]` to `w[7]`, the key itself (R115). -/
def keyWordsOf (key : Bytes) : List Bytes := (List.range Config.keyWords).map fun i => memRead key (4 * i) 4

/-- `ExpandKey(key)` (R115): 52 words after the eight of the key. Irreducible, here and for the two block functions below,
so that comparing two states does not run the cipher; `unfold` and `simp` open it. -/
@[irreducible] def expandKey (key : Bytes) : Bytes := (expandWords 52 (keyWordsOf key)).flatten

/-- One of the rounds 1 to 13 of encryption (R116). -/
def encryptRound (ks : Bytes) (r : Nat) (s : Bytes) : Bytes :=
  addRoundKey (mixColumns (shiftRows (subBytes s))) ks r

/-- Rounds `r`, `r + 1`, ..., `n` of them (R116, R118). -/
def encryptRounds (ks : Bytes) : Nat → Nat → Bytes → Bytes
  | 0, _, s => s
  | n + 1, r, s => encryptRounds ks n (r + 1) (encryptRound ks r s)

/-- `EncryptBlock(KS, block)` (R116). -/
@[irreducible] def encryptBlock (ks block : Bytes) : Bytes :=
  addRoundKey (shiftRows (subBytes (encryptRounds ks 13 1 (addRoundKey block ks 0)))) ks 14

/-- One of the rounds 13 down to 1 of decryption (R117). -/
def decryptRound (ks : Bytes) (r : Nat) (s : Bytes) : Bytes :=
  invMixColumns (addRoundKey (invSubBytes (invShiftRows s)) ks r)

/-- Rounds `n`, `n - 1`, ..., 1 (R117, R118). -/
def decryptRounds (ks : Bytes) : Nat → Bytes → Bytes
  | 0, s => s
  | n + 1, s => decryptRounds ks n (decryptRound ks (n + 1) s)

/-- `DecryptBlock(KS, block)` (R117). -/
@[irreducible] def decryptBlock (ks block : Bytes) : Bytes :=
  addRoundKey (invSubBytes (invShiftRows (decryptRounds ks 13 (addRoundKey block ks 14)))) ks 0

/-- Expand the key in KEYBUF into KS and the tweak key into KS2 (R120, R211 step 1). -/
def State.expandKeys (s : State) : State :=
  { s with ks := expandKey s.keyBuf, ks2 := expandKey (xtsK2 s.params.xtsK2 s.keyBuf), ksValid := true }

/-- The rule of KEXP (R120). -/
def kexpRule (s : State) : RuleResult :=
  if s.keyBuf.length ≠ Config.keyBytes then (s, .error .invalidKeyLength) else (s.expandKeys, .ok [])

/-- The result of ENCB and DECB: one block through a block function (R121, R122). -/
def blockResult (f : Bytes → Bytes → Bytes) (s : State) : Except ErrorKind Bytes :=
  if s.ksValid = false then .error .noSchedule
  else if s.inBuf.length ≠ Config.blockBytes then .error .invalidInputLength
  else .ok (f s.ks s.inBuf)

/-- The rule of KCLR (R123): it never fails. -/
def kclrRule (s : State) : RuleResult := (s.destroySchedule, .ok [])

/-- KEXP (R120). -/
def execKexp (s : State) : Host.Outcome State Fault Refusal := runCommand false kexpRule s

/-- ENCB (R121). -/
def execEncb (s : State) : Host.Outcome State Fault Refusal := runCommand false (pureRule (blockResult encryptBlock)) s

/-- DECB (R122). -/
def execDecb (s : State) : Host.Outcome State Fault Refusal := runCommand false (pureRule (blockResult decryptBlock)) s

/-- KCLR (R123). -/
def execKclr (s : State) : Host.Outcome State Fault Refusal := runCommand false kclrRule s

end Sys2Proof.Machine
end

