-- ==== Sys2Proof/Machine/Modes.lean ====
section
/-! DEFINITION. The Mode Driver (spec/42_mode_driver.md): the six modes in both directions, and the commands MENC and MDEC,
one per row. The working registers CHAIN, KSTREAM and TWEAK (R179) are arguments of the recursions; the block index BLK is
the position in the list of blocks. -/

namespace Sys2Proof.Machine

/-- R161: the IV check. -/
def checkIv (mode : Mode) (iv : Bytes) : Except ErrorKind Unit :=
  if needsIv mode = true ∧ iv.length ≠ Config.ivBytes then .error .invalidIvLength else .ok ()

/-- R162: the data length check. -/
def checkLength (mode : Mode) (len : Nat) : Except ErrorKind Unit :=
  match mode with
  | .ecb | .cbc => if aligned len then .ok () else .error .unalignedInput
  | .ofb | .cfb | .ctr => .ok ()
  | .xts => if len = 0 ∨ Config.blockBytes ≤ len then .ok () else .error .invalidInputLength

/-- A block through a keystream block: only the last block can be shorter than 16 (R168, R169, R172). -/
def applyKeystream (x kstream : Bytes) : Bytes := xorBytes x (trunc kstream x.length)

/-- CBC encryption (R166). -/
def cbcEncrypt (ks : Bytes) : Bytes → List Bytes → List Bytes
  | _, [] => []
  | chain, x :: xs =>
    let y := encryptBlock ks (xorBytes x chain)
    y :: cbcEncrypt ks y xs

/-- CBC decryption (R167). -/
def cbcDecrypt (ks : Bytes) : Bytes → List Bytes → List Bytes
  | _, [] => []
  | chain, x :: xs => xorBytes (decryptBlock ks x) chain :: cbcDecrypt ks x xs

/-- OFB, both directions (R168). -/
def ofbCrypt (ks : Bytes) : Bytes → List Bytes → List Bytes
  | _, [] => []
  | chain, x :: xs =>
    let kstream := encryptBlock ks chain
    applyKeystream x kstream :: ofbCrypt ks kstream xs

/-- CFB encryption (R169). -/
def cfbEncrypt (ks : Bytes) : Bytes → List Bytes → List Bytes
  | _, [] => []
  | chain, x :: xs =>
    let y := applyKeystream x (encryptBlock ks chain)
    y :: cfbEncrypt ks y xs

/-- CFB decryption (R170): it uses `E`, never `D`. -/
def cfbDecrypt (ks : Bytes) : Bytes → List Bytes → List Bytes
  | _, [] => []
  | chain, x :: xs => applyKeystream x (encryptBlock ks chain) :: cfbDecrypt ks x xs

/-- A block as one unsigned integer, big-endian (R171). -/
def beToNat (t : Bytes) : Nat := t.foldl (fun n b => n * 256 + b.toNat) 0

/-- An integer as a 16-byte block, big-endian (R171). -/
def beOfNat (n : Nat) : Bytes := (List.range 16).map fun i => BitVec.ofNat 8 (n / 256 ^ (15 - i))

/-- `Inc128(t)` (R171): add 1 modulo 2^128. -/
def inc128 (t : Bytes) : Bytes := beOfNat ((beToNat t + 1) % 2 ^ 128)

/-- CTR, both directions (R172). -/
def ctrCrypt (ks : Bytes) : Bytes → List Bytes → List Bytes
  | _, [] => []
  | chain, x :: xs => applyKeystream x (encryptBlock ks chain) :: ctrCrypt ks (inc128 chain) xs

/-- `XE(x, t)` (R173). -/
def xtsE (ks x t : Bytes) : Bytes := xorBytes (encryptBlock ks (xorBytes x t)) t

/-- `XD(x, t)` (R173). -/
def xtsD (ks x t : Bytes) : Bytes := xorBytes (decryptBlock ks (xorBytes x t)) t

/-- `MulAlpha(t)` (R174), the block read little-endian. -/
def mulAlpha (t : Bytes) : Bytes :=
  let low : Byte := byteAt t 0 <<< 1
  (if (byteAt t 15).getLsbD 7 then low ^^^ 0x87 else low) ::
    List.zipWith (fun cur prev : Byte => cur <<< 1 ||| prev >>> 7) (t.drop 1) t

/-- Ciphertext stealing on encryption (R175): the last full block `x` under tweak `t`, the partial block `p` after it. -/
def xtsStealEncrypt (ks t x p : Bytes) : Bytes :=
  let cc := xtsE ks x t
  xtsE ks (p ++ cc.drop p.length) (mulAlpha t) ++ trunc cc p.length

/-- Ciphertext stealing on decryption (R176): the last full block is undone with the LAST tweak. -/
def xtsStealDecrypt (ks t x p : Bytes) : Bytes :=
  let pp := xtsD ks x (mulAlpha t)
  xtsD ks (p ++ pp.drop p.length) t ++ trunc pp p.length

/-- XTS over the blocks from the one with tweak `t` on (R175, R176): `f` is `XE` or `XD`, `steal` treats a last full block
that a partial block follows. -/
def xtsBlocks (f : Bytes → Bytes → Bytes) (steal : Bytes → Bytes → Bytes → Bytes) : Bytes → List Bytes → Bytes
  | _, [] => []
  | t, [x] => f x t
  | t, x :: p :: rest =>
    if rest = [] ∧ p.length < Config.blockBytes then steal t x p
    else f x t ++ xtsBlocks f steal (mulAlpha t) (p :: rest)

/-- The mode's rule for encryption, after the checks (R164, R166, R168, R169, R172, R175). -/
def driveEncrypt (mode : Mode) (data ks ks2 iv : Bytes) : Bytes :=
  match mode with
  | .ecb => ((blocks data).map (encryptBlock ks)).flatten
  | .cbc => (cbcEncrypt ks iv (blocks data)).flatten
  | .ofb => (ofbCrypt ks iv (blocks data)).flatten
  | .cfb => (cfbEncrypt ks iv (blocks data)).flatten
  | .ctr => (ctrCrypt ks iv (blocks data)).flatten
  | .xts => xtsBlocks (xtsE ks) (xtsStealEncrypt ks) (encryptBlock ks2 iv) (blocks data)

/-- The mode's rule for decryption, after the checks (R165, R167, R168, R170, R172, R176). -/
def driveDecrypt (mode : Mode) (data ks ks2 iv : Bytes) : Bytes :=
  match mode with
  | .ecb => ((blocks data).map (decryptBlock ks)).flatten
  | .cbc => (cbcDecrypt ks iv (blocks data)).flatten
  | .ofb => (ofbCrypt ks iv (blocks data)).flatten
  | .cfb => (cfbDecrypt ks iv (blocks data)).flatten
  | .ctr => (ctrCrypt ks iv (blocks data)).flatten
  | .xts => xtsBlocks (xtsD ks) (xtsStealDecrypt ks) (encryptBlock ks2 iv) (blocks data)

/-- `ModeEncrypt(mode, data, KS, KS2, iv)` (R160), checks in the order of R163. -/
def modeEncrypt (mode : Mode) (data ks ks2 iv : Bytes) : Except ErrorKind Bytes := do
  checkIv mode iv
  checkLength mode data.length
  .ok (driveEncrypt mode data ks ks2 iv)

/-- `ModeDecrypt(mode, data, KS, KS2, iv)` (R160), checks in the order of R163. -/
def modeDecrypt (mode : Mode) (data ks ks2 iv : Bytes) : Except ErrorKind Bytes := do
  checkIv mode iv
  checkLength mode data.length
  .ok (driveDecrypt mode data ks ks2 iv)

/-- The result of MENC (R177). -/
def mencResult (mode : Mode) (s : State) : Except ErrorKind Bytes :=
  if s.ksValid = false then .error .noSchedule else modeEncrypt mode s.inBuf s.ks s.ks2 s.ivBuf

/-- The result of MDEC (R178). -/
def mdecResult (mode : Mode) (s : State) : Except ErrorKind Bytes :=
  if s.ksValid = false then .error .noSchedule else modeDecrypt mode s.inBuf s.ks s.ks2 s.ivBuf

/-- MENC.ECB (R177). -/
def execMencEcb (s : State) : Host.Outcome State Fault Refusal :=
  runCommand false (pureRule (mencResult .ecb)) s

/-- MENC.CBC (R177). -/
def execMencCbc (s : State) : Host.Outcome State Fault Refusal :=
  runCommand false (pureRule (mencResult .cbc)) s

/-- MENC.OFB (R177). -/
def execMencOfb (s : State) : Host.Outcome State Fault Refusal :=
  runCommand false (pureRule (mencResult .ofb)) s

/-- MENC.CFB (R177). -/
def execMencCfb (s : State) : Host.Outcome State Fault Refusal :=
  runCommand false (pureRule (mencResult .cfb)) s

/-- MENC.CTR (R177). -/
def execMencCtr (s : State) : Host.Outcome State Fault Refusal :=
  runCommand false (pureRule (mencResult .ctr)) s

/-- MENC.XTS (R177). -/
def execMencXts (s : State) : Host.Outcome State Fault Refusal :=
  runCommand false (pureRule (mencResult .xts)) s

/-- MDEC.ECB (R178). -/
def execMdecEcb (s : State) : Host.Outcome State Fault Refusal :=
  runCommand false (pureRule (mdecResult .ecb)) s

/-- MDEC.CBC (R178). -/
def execMdecCbc (s : State) : Host.Outcome State Fault Refusal :=
  runCommand false (pureRule (mdecResult .cbc)) s

/-- MDEC.OFB (R178). -/
def execMdecOfb (s : State) : Host.Outcome State Fault Refusal :=
  runCommand false (pureRule (mdecResult .ofb)) s

/-- MDEC.CFB (R178). -/
def execMdecCfb (s : State) : Host.Outcome State Fault Refusal :=
  runCommand false (pureRule (mdecResult .cfb)) s

/-- MDEC.CTR (R178). -/
def execMdecCtr (s : State) : Host.Outcome State Fault Refusal :=
  runCommand false (pureRule (mdecResult .ctr)) s

/-- MDEC.XTS (R178). -/
def execMdecXts (s : State) : Host.Outcome State Fault Refusal :=
  runCommand false (pureRule (mdecResult .xts)) s

end Sys2Proof.Machine
end

