-- ==== Sys2Proof/Machine/Padding.lean ====
section
/-! DEFINITION. The Padding Engine (spec/41_padding_engine.md): Pad and Unpad, one definition per scheme, and the commands
PAD and UNPAD, one per row. -/

namespace Sys2Proof.Machine

/-- The pad count `n(L) = 16 - (L mod 16)`, 1 to 16 (R140). -/
def padCount (len : Nat) : Nat := Config.blockBytes - len % Config.blockBytes

/-- A count, 1 to 16, as a byte. -/
def countByte (n : Nat) : Byte := BitVec.ofNat 8 n

/-- How many bytes `Pad` draws: only ISO10126 draws, `n - 1` bytes (R140, R145). -/
def padDraw (scheme : Scheme) (len : Nat) : Nat :=
  match scheme with
  | .iso10126 => padCount len - 1
  | .none | .pkcs7 | .iso7816_4 | .ansi923 | .zero => 0

/-- `Pad(data, None)` (R141). -/
def padWithNone (data : Bytes) : Except ErrorKind Bytes :=
  if aligned data.length then .ok data else .error .unalignedInput

/-- `Pad(data, PKCS7)` (R142). -/
def padWithPkcs7 (data : Bytes) : Bytes :=
  let n := padCount data.length
  data ++ rep (countByte n) n

/-- `Pad(data, ISO7816_4)` (R143). -/
def padWithIso7816 (data : Bytes) : Bytes :=
  let n := padCount data.length
  data ++ [0x80] ++ zeros (n - 1)

/-- `Pad(data, ANSI923)` (R144). -/
def padWithAnsi923 (data : Bytes) : Bytes :=
  let n := padCount data.length
  data ++ zeros (n - 1) ++ [countByte n]

/-- `Pad(data, ISO10126)` (R145); `fill` is the answer of its one draw, `n - 1` bytes. -/
def padWithIso10126 (data fill : Bytes) : Bytes := data ++ fill ++ [countByte (padCount data.length)]

/-- `Pad(data, ZERO)` (R146): nothing is appended to aligned data. -/
def padWithZero (data : Bytes) : Bytes :=
  data ++ zeros ((Config.blockBytes - data.length % Config.blockBytes) % Config.blockBytes)

/-- `Pad(data, scheme, Rand)` (R140), `fill` being what `Rand` answers. -/
def padData (scheme : Scheme) (data fill : Bytes) : Except ErrorKind Bytes :=
  match scheme with
  | .none => padWithNone data
  | .pkcs7 => .ok (padWithPkcs7 data)
  | .iso7816_4 => .ok (padWithIso7816 data)
  | .ansi923 => .ok (padWithAnsi923 data)
  | .iso10126 => .ok (padWithIso10126 data fill)
  | .zero => .ok (padWithZero data)

/-- The count in the last byte, 1 to 16; anything else, or no last byte, is `InvalidPadding` (R147 check 2, R149, R151,
R152). -/
def lastCount (data : Bytes) : Except ErrorKind Nat :=
  match data.getLast? with
  | none => .error .invalidPadding
  | some b => if b.toNat < 1 ∨ b.toNat > Config.blockBytes then .error .invalidPadding else .ok b.toNat

/-- `Unpad(data, PKCS7)` after the alignment check (R149). -/
def unpadPkcs7 (data : Bytes) : Except ErrorKind Bytes := do
  let n ← lastCount data
  if (data.drop (data.length - n)).all (· == countByte n) then .ok (data.take (data.length - n))
  else .error .invalidPadding

/-- The backward scan of R150 over the reversed data, `k` bytes of it at most: skip zeros to the marker `0x80`. What is
left is the data before the marker, still reversed. -/
def markerScan : Nat → Bytes → Except ErrorKind Bytes
  | 0, _ => .error .invalidPadding
  | _ + 1, [] => .error .invalidPadding
  | k + 1, x :: rest =>
    if x = 0x80 then .ok rest else if x ≠ 0x00 then .error .invalidPadding else markerScan k rest

/-- `Unpad(data, ISO7816_4)` after the alignment check (R150); empty data fails (R147 check 2). -/
def unpadIso7816 (data : Bytes) : Except ErrorKind Bytes := do
  let kept ← markerScan Config.blockBytes data.reverse
  .ok kept.reverse

/-- `Unpad(data, ANSI923)` after the alignment check (R151). -/
def unpadAnsi923 (data : Bytes) : Except ErrorKind Bytes := do
  let n ← lastCount data
  if (memRead data (data.length - n) (n - 1)).all (· == 0x00) then .ok (data.take (data.length - n))
  else .error .invalidPadding

/-- `Unpad(data, ISO10126)` after the alignment check (R152): only the count is looked at. -/
def unpadIso10126 (data : Bytes) : Except ErrorKind Bytes := do
  let n ← lastCount data
  .ok (data.take (data.length - n))

/-- `Unpad(data, ZERO)` after the alignment check (R153): every trailing zero byte goes. -/
def unpadZero (data : Bytes) : Bytes := (data.reverse.dropWhile (· == 0x00)).reverse

/-- `Unpad(data, scheme)` (R147 to R153): the alignment check, then the scheme's own rule. -/
def unpadData (scheme : Scheme) (data : Bytes) : Except ErrorKind Bytes :=
  if aligned data.length then
    match scheme with
    | .none => .ok data
    | .pkcs7 => unpadPkcs7 data
    | .iso7816_4 => unpadIso7816 data
    | .ansi923 => unpadAnsi923 data
    | .iso10126 => unpadIso10126 data
    | .zero => .ok (unpadZero data)
  else .error .unalignedInput

/-- `Pad` of some data with the draw it takes from the random source (R145, R154). -/
def padDrawing (scheme : Scheme) (data : Bytes) (s : State) : RuleResult :=
  let n := padDraw scheme data.length
  (s.drawn n, padData scheme data (s.rand n))

/-- The rule of PAD (R154). -/
def padRule (scheme : Scheme) (s : State) : RuleResult := padDrawing scheme s.inBuf s

/-- The result of UNPAD (R155). -/
def unpadResult (scheme : Scheme) (s : State) : Except ErrorKind Bytes := unpadData scheme s.inBuf

/-- PAD.NONE (R154). -/
def execPadNone (s : State) : Host.Outcome State Fault Refusal := runCommand false (padRule .none) s

/-- PAD.PKCS7 (R154). -/
def execPadPkcs7 (s : State) : Host.Outcome State Fault Refusal := runCommand false (padRule .pkcs7) s

/-- PAD.ISO7816_4 (R154). -/
def execPadIso7816_4 (s : State) : Host.Outcome State Fault Refusal := runCommand false (padRule .iso7816_4) s

/-- PAD.ANSI923 (R154). -/
def execPadAnsi923 (s : State) : Host.Outcome State Fault Refusal := runCommand false (padRule .ansi923) s

/-- PAD.ISO10126 (R154). -/
def execPadIso10126 (s : State) : Host.Outcome State Fault Refusal := runCommand false (padRule .iso10126) s

/-- PAD.ZERO (R154). -/
def execPadZero (s : State) : Host.Outcome State Fault Refusal := runCommand false (padRule .zero) s

/-- UNPAD.NONE (R155). -/
def execUnpadNone (s : State) : Host.Outcome State Fault Refusal :=
  runCommand false (pureRule (unpadResult .none)) s

/-- UNPAD.PKCS7 (R155). -/
def execUnpadPkcs7 (s : State) : Host.Outcome State Fault Refusal :=
  runCommand false (pureRule (unpadResult .pkcs7)) s

/-- UNPAD.ISO7816_4 (R155). -/
def execUnpadIso7816_4 (s : State) : Host.Outcome State Fault Refusal :=
  runCommand false (pureRule (unpadResult .iso7816_4)) s

/-- UNPAD.ANSI923 (R155). -/
def execUnpadAnsi923 (s : State) : Host.Outcome State Fault Refusal :=
  runCommand false (pureRule (unpadResult .ansi923)) s

/-- UNPAD.ISO10126 (R155). -/
def execUnpadIso10126 (s : State) : Host.Outcome State Fault Refusal :=
  runCommand false (pureRule (unpadResult .iso10126)) s

/-- UNPAD.ZERO (R155). -/
def execUnpadZero (s : State) : Host.Outcome State Fault Refusal :=
  runCommand false (pureRule (unpadResult .zero)) s

end Sys2Proof.Machine
end

