-- ==== Sys2Proof/Machine/Facade.lean ====
section
/-! DEFINITION. The Facade (spec/45_facade.md): the composed encryption and decryption, and the commands AESE and AESD, one
per entry point (R213). -/

namespace Sys2Proof.Machine

/-- Step 3 of R211: pad where padding applies, else pass the data through. -/
def padWhereApplies (mode : Mode) (scheme : Scheme) (data : Bytes) (s : State) : RuleResult :=
  if padApplies mode scheme then padDrawing scheme data s else (s, .ok data)

/-- Steps 4 to 6 of R211, on the data that step 3 gave: drive, prepend, encode. -/
def driveAndWrap (mode : Mode) (b64 : Bool) (s : State) (data : Bytes) : Except ErrorKind Bytes := do
  let c ← modeEncrypt mode data s.ks s.ks2 s.ivBuf
  let out := prependIv s c
  .ok (if b64 then b64Encode out else out)

/-- The rule of AESE (R211). -/
def aeseRule (mode : Mode) (scheme : Scheme) (policy : Policy) (b64 : Bool) (s : State) : RuleResult :=
  if s.keyBuf.length ≠ Config.keyBytes then (s, .error .invalidKeyLength)
  else
    let t := resolveIvEnc mode policy s.expandKeys
    match padWhereApplies mode scheme t.inBuf t with
    | (u, .error k) => (u, .error k)
    | (u, .ok d) => (u.destroySchedule, driveAndWrap mode b64 u d)

/-- Step 2 of R212: decode the text when `B64` is 1. -/
def unwrapInput (b64 : Bool) (data : Bytes) : Except ErrorKind Bytes := if b64 then b64Decode data else .ok data

/-- Steps 4 and 5 of R212: drive, then unpad where padding applies. -/
def driveAndUnpad (mode : Mode) (scheme : Scheme) (s : State) (data : Bytes) : Except ErrorKind Bytes := do
  let d ← modeDecrypt mode data s.ks s.ks2 s.ivBuf
  if padApplies mode scheme then unpadData scheme d else .ok d

/-- The rule of AESD (R212). -/
def aesdRule (mode : Mode) (scheme : Scheme) (policy : Policy) (b64 : Bool) (s : State) : RuleResult :=
  if s.keyBuf.length ≠ Config.keyBytes then (s, .error .invalidKeyLength)
  else
    match unwrapInput b64 s.inBuf with
    | .error k => (s.expandKeys, .error k)
    | .ok d =>
      match resolveIvDec mode policy d s.expandKeys with
      | (t, .error k) => (t, .error k)
      | (t, .ok rest) => (t.destroySchedule, driveAndUnpad mode scheme t rest)

/-- AESE.X (R211, R213). -/
def execAeseX (mode : Mode) (scheme : Scheme) (s : State) : Host.Outcome State Fault Refusal :=
  runCommand true (aeseRule mode scheme .explicit false) s

/-- AESE.F (R211, R213). -/
def execAeseF (flag : Bool) (mode : Mode) (scheme : Scheme) (s : State) : Host.Outcome State Fault Refusal :=
  runCommand true (aeseRule mode scheme (Policy.ofFlag flag) false) s

/-- AESE.X.B64 (R211, R213). -/
def execAeseXB64 (mode : Mode) (scheme : Scheme) (s : State) : Host.Outcome State Fault Refusal :=
  runCommand true (aeseRule mode scheme .explicit true) s

/-- AESE.F.B64 (R211, R213). -/
def execAeseFB64 (flag : Bool) (mode : Mode) (scheme : Scheme) (s : State) : Host.Outcome State Fault Refusal :=
  runCommand true (aeseRule mode scheme (Policy.ofFlag flag) true) s

/-- AESD.X (R212, R213). -/
def execAesdX (mode : Mode) (scheme : Scheme) (s : State) : Host.Outcome State Fault Refusal :=
  runCommand true (aesdRule mode scheme .explicit false) s

/-- AESD.F (R212, R213). -/
def execAesdF (flag : Bool) (mode : Mode) (scheme : Scheme) (s : State) : Host.Outcome State Fault Refusal :=
  runCommand true (aesdRule mode scheme (Policy.ofFlag flag) false) s

/-- AESD.X.B64 (R212, R213). -/
def execAesdXB64 (mode : Mode) (scheme : Scheme) (s : State) : Host.Outcome State Fault Refusal :=
  runCommand true (aesdRule mode scheme .explicit true) s

/-- AESD.F.B64 (R212, R213). -/
def execAesdFB64 (flag : Bool) (mode : Mode) (scheme : Scheme) (s : State) : Host.Outcome State Fault Refusal :=
  runCommand true (aesdRule mode scheme (Policy.ofFlag flag) true) s

end Sys2Proof.Machine
end

