-- ==== Sys2Proof/Machine/Dispatch.lean ====
section
/-! DEFINITION. One arm per instruction: the command's rule of R81, run in the wrapper of R87. -/

namespace Sys2Proof.Machine

def exec (i : Instr) (s : State) : Host.Outcome State Fault Refusal :=
  match i with
  | .kexp => Sys2Proof.Machine.execKexp s
  | .encb => Sys2Proof.Machine.execEncb s
  | .decb => Sys2Proof.Machine.execDecb s
  | .kclr => Sys2Proof.Machine.execKclr s
  | .padNone => Sys2Proof.Machine.execPadNone s
  | .padPkcs7 => Sys2Proof.Machine.execPadPkcs7 s
  | .padIso7816_4 => Sys2Proof.Machine.execPadIso7816_4 s
  | .padAnsi923 => Sys2Proof.Machine.execPadAnsi923 s
  | .padIso10126 => Sys2Proof.Machine.execPadIso10126 s
  | .padZero => Sys2Proof.Machine.execPadZero s
  | .unpadNone => Sys2Proof.Machine.execUnpadNone s
  | .unpadPkcs7 => Sys2Proof.Machine.execUnpadPkcs7 s
  | .unpadIso7816_4 => Sys2Proof.Machine.execUnpadIso7816_4 s
  | .unpadAnsi923 => Sys2Proof.Machine.execUnpadAnsi923 s
  | .unpadIso10126 => Sys2Proof.Machine.execUnpadIso10126 s
  | .unpadZero => Sys2Proof.Machine.execUnpadZero s
  | .mencEcb => Sys2Proof.Machine.execMencEcb s
  | .mencCbc => Sys2Proof.Machine.execMencCbc s
  | .mencOfb => Sys2Proof.Machine.execMencOfb s
  | .mencCfb => Sys2Proof.Machine.execMencCfb s
  | .mencCtr => Sys2Proof.Machine.execMencCtr s
  | .mencXts => Sys2Proof.Machine.execMencXts s
  | .mdecEcb => Sys2Proof.Machine.execMdecEcb s
  | .mdecCbc => Sys2Proof.Machine.execMdecCbc s
  | .mdecOfb => Sys2Proof.Machine.execMdecOfb s
  | .mdecCfb => Sys2Proof.Machine.execMdecCfb s
  | .mdecCtr => Sys2Proof.Machine.execMdecCtr s
  | .mdecXts => Sys2Proof.Machine.execMdecXts s
  | .ivre mode policy => Sys2Proof.Machine.execIvre mode policy s
  | .ivrd mode policy => Sys2Proof.Machine.execIvrd mode policy s
  | .ivpp => Sys2Proof.Machine.execIvpp s
  | .b64e => Sys2Proof.Machine.execB64e s
  | .b64d => Sys2Proof.Machine.execB64d s
  | .aeseX mode scheme => Sys2Proof.Machine.execAeseX mode scheme s
  | .aeseF flag mode scheme => Sys2Proof.Machine.execAeseF flag mode scheme s
  | .aeseXB64 mode scheme => Sys2Proof.Machine.execAeseXB64 mode scheme s
  | .aeseFB64 flag mode scheme => Sys2Proof.Machine.execAeseFB64 flag mode scheme s
  | .aesdX mode scheme => Sys2Proof.Machine.execAesdX mode scheme s
  | .aesdF flag mode scheme => Sys2Proof.Machine.execAesdF flag mode scheme s
  | .aesdXB64 mode scheme => Sys2Proof.Machine.execAesdXB64 mode scheme s
  | .aesdFB64 flag mode scheme => Sys2Proof.Machine.execAesdFB64 flag mode scheme s

end Sys2Proof.Machine
end

