-- ==== Sys2Proof/Machine/Transactions.lean ====
section
/-! DEFINITION. The host's transactions (spec/20_memory.md R61 to R65, spec/70_reset_and_hazards.md R261), the execution of a
command word (spec/30_encoding.md R87), and the host programs of spec/30_encoding.md R91. A refused transaction is a next
state in which only the reply differs (spec/93_implementation_defined.md V6 to V10). -/

namespace Sys2Proof.Machine

/-- The transaction is over and the host has its reply. -/
def State.answer (s : State) (r : HostReply) : State := { s with reply := r }

/-- Put bytes into a buffer (R62). -/
def State.setBuffer (s : State) (b : Buffer) (bytes : Bytes) : State :=
  match b with
  | .keyBuf => { s with keyBuf := bytes }
  | .ivBuf => { s with ivBuf := bytes, embed := false }
  | .inBuf => { s with inBuf := bytes }
  | .outBuf => { s with outBuf := bytes }

/-- `H_LOAD buf, s` (R62): the whole buffer is replaced; a load of IVBUF clears EMBED. A load above the capacity is refused,
and so is one to OUTBUF, which is read-only to the host (R24, V7). -/
def hostLoad (b : Buffer) (bytes : Bytes) (s : State) : State :=
  match b with
  | .outBuf => s.answer .refused
  | .keyBuf | .ivBuf | .inBuf =>
    if fits bytes.length (s.capacity b) then (s.setBuffer b bytes).answer .done else s.answer .refused

/-- `H_READBUF buf` (R63): KEYBUF is write-only. -/
def hostReadBuf (b : Buffer) (s : State) : State :=
  match b with
  | .keyBuf => s.answer .refused
  | .ivBuf | .inBuf | .outBuf => s.answer (.bytes (s.buffer b))

/-- The value of a numbered register (R27 to R30); there is none above 6. -/
def State.register? (s : State) : Nat → Option Nat
  | 0 => some s.cmd.toNat
  | 1 => some s.status.toNat
  | 2 => some s.errCode.toNat
  | 3 => some s.keyBuf.length
  | 4 => some s.ivBuf.length
  | 5 => some s.inBuf.length
  | 6 => some s.outBuf.length
  | _ => none

/-- `H_RDREG n` (R64). -/
def hostReadReg (n : Nat) (s : State) : State :=
  match s.register? n with
  | some v => s.answer (.value v)
  | none => s.answer .refused

/-- `H_RESET` (R260, R261): every element of state takes its reset value. The parameters, what the host has still to ask and
the random source are not the core's to reset. -/
def hostReset (s : State) : State :=
  { State.reset with
    params := s.params, pending := s.pending, reply := .done, entropy := s.entropy, draws := s.draws }

/-- `Execute(w)` (R87): CMD takes the word; a word that fails decode fails as a command that has not started. -/
def executeWord (w : Word) (s : State) : Host.Outcome State Fault Refusal :=
  let t := { s with cmd := w }
  match decode w with
  | .ok i => exec i t
  | .error k => .next (t.takeError false k t)

/-- `H_CMD w` (R65). A command whose result exceeds a bounded `BUF_CAP` is refused and has no effect at all (R7, V10; log
entry 4). -/
def hostCmd (w : Word) (s : State) : Host.Outcome State Fault Refusal :=
  match executeWord w s with
  | .next t => .next (if fits t.outBuf.length (t.capacity .outBuf) then t.answer .done else s.answer .refused)
  | .fault r => .fault r
  | .refused r => .refused r

/-- A host write to a numbered register: register 0 is CMD (R28), every other is read-only or absent and the write is refused
(R27). -/
def hostWriteReg (n : Nat) (w : Word) (s : State) : Host.Outcome State Fault Refusal :=
  match n with
  | 0 => hostCmd w s
  | _ + 1 => .next (s.answer .refused)

/-- One transaction, atomically (R61, R68). -/
def transact (t : HostTxn) (s : State) : Host.Outcome State Fault Refusal :=
  match t with
  | .load b bytes => .next (hostLoad b bytes s)
  | .readBuf b => .next (hostReadBuf b s)
  | .readReg n => .next (hostReadReg n s)
  | .cmd w => hostCmd w s
  | .writeReg n w => hostWriteReg n w s
  | .reset => .next (hostReset s)

/-- Perform the host's next transaction; with none pending the core does nothing (R61). -/
def hostStep (s : State) : Host.Outcome State Fault Refusal :=
  match s.pending with
  | [] => .next s
  | t :: rest => transact t { s with pending := rest }

/-- The state in which the host's next transaction is `H_CMD w`. -/
def State.withCommand (s : State) (w : Word) : State := { s with pending := .cmd w :: s.pending }

/-- The pseudo-operation `FEED` (R91): read OUTBUF, load those bytes into INBUF. -/
def feed (s : State) : List HostTxn := [.readBuf .outBuf, .load .inBuf s.outBuf]

/-- The transactions that load a key, an explicit IV if there is one, and the data, and issue a command (R91). -/
def call (key : Bytes) (iv : Option Bytes) (data : Bytes) (i : Instr) : List HostTxn :=
  .load .keyBuf key :: (iv.toList.map (.load .ivBuf) ++ [.load .inBuf data, .cmd (encode i)])

/-- The expansions of the eight entry points (R91). -/
def entryPointTxns : EntryPoint → List HostTxn
  | .encryptIv data key iv mode scheme => call key (some iv) data (.aeseX mode scheme)
  | .encryptFlag data key useIv mode scheme => call key none data (.aeseF useIv mode scheme)
  | .decryptIv data key iv mode scheme => call key (some iv) data (.aesdX mode scheme)
  | .decryptFlag data key hasIv mode scheme => call key none data (.aesdF hasIv mode scheme)
  | .encryptBase64Iv data key iv mode scheme => call key (some iv) data (.aeseXB64 mode scheme)
  | .encryptBase64Flag data key useIv mode scheme => call key none data (.aeseFB64 useIv mode scheme)
  | .decryptBase64Iv text key iv mode scheme => call key (some iv) text (.aesdXB64 mode scheme)
  | .decryptBase64Flag text key hasIv mode scheme => call key none text (.aesdFB64 hasIv mode scheme)

/-- What an entry point returns, from the state after its transactions: OUTBUF when ERRCODE is 0, else the code of the error
kind (R91, R231). -/
def entryPointResult (s : State) : Except Byte Bytes := if s.errCode = 0 then .ok s.outBuf else .error s.errCode

end Sys2Proof.Machine
end

