-- ==== Sys2Proof/Machine/Step.lean ====
section
/-! DEFINITION. One step of the machine: the host's next transaction (spec/20_memory.md R61, R70). The hardware has no program
counter and fetches nothing (spec/10_state.md R26): a command is executed when the host writes it to CMD. -/

namespace Sys2Proof.Machine

/-- One step: the next pending host transaction, performed atomically. -/
def step (s : State) : Host.Outcome State Fault Refusal := hostStep s

/-- `s` with the command word `w` as the host's next transaction, so that the next step writes it to CMD and executes it. -/
def State.withFetchWord (s : State) (nbits w : Nat) : State := s.withCommand (BitVec.ofNat 32 (w % 2 ^ nbits))

end Sys2Proof.Machine
end

