-- ==== Sys2Proof/Machine/Assembly.lean ====
section
/-! DEFINITION. The assembler syntax of spec/30_encoding.md R89: a line's operands with the defaults CBC and PKCS7, its word,
and the text of an instruction. -/

namespace Sys2Proof.Machine

/-- The operands of an assembler line; an omitted mode or scheme is absent (R89). -/
structure AsmLine where
  /-- The opcode mnemonic. -/
  op : Op
  /-- `<mode>`. -/
  mode : Option Mode
  /-- `<scheme>`. -/
  scheme : Option Scheme
  /-- `<policy>`. -/
  policy : Option Policy
  /-- `, B64`. -/
  b64 : Bool
  deriving DecidableEq, Repr

/-- The operands of a line after the defaults: for AESE and AESD an omitted mode is CBC and an omitted scheme PKCS7; an
operand that the line does not have has code zero (R89). -/
def AsmLine.operands (l : AsmLine) : Mode × Scheme × Policy :=
  match l.op with
  | .aese | .aesd => (l.mode.getD .cbc, l.scheme.getD .pkcs7, l.policy.getD .explicit)
  | .kexp | .encb | .decb | .kclr | .pad | .unpad | .menc | .mdec | .ivre | .ivrd | .ivpp | .b64e | .b64d =>
    (l.mode.getD .ecb, l.scheme.getD .none, l.policy.getD .explicit)

/-- The word is the OR of `OP`, `MODE << 8`, `PAD << 12`, `IVP << 16` and `B64 << 18` (R89). -/
def AsmLine.word (l : AsmLine) : Word :=
  opMatch l.op ||| l.operands.1.code <<< 8 ||| l.operands.2.1.code <<< 12 ||| l.operands.2.2.code <<< 16 |||
    (if l.b64 then 1 <<< 18 else 0)

/-- `<mode>` (R89). -/
def modeText : Mode → String
  | .ecb => "ECB"
  | .cbc => "CBC"
  | .ofb => "OFB"
  | .cfb => "CFB"
  | .ctr => "CTR"
  | .xts => "XTS"

/-- `<scheme>` (R89). -/
def schemeText : Scheme → String
  | .none => "NONE"
  | .pkcs7 => "PKCS7"
  | .iso7816_4 => "ISO7816_4"
  | .ansi923 => "ANSI923"
  | .iso10126 => "ISO10126"
  | .zero => "ZERO"

/-- `<policy>` (R89). -/
def policyText : Policy → String
  | .explicit => "EXPLICIT"
  | .flag0 => "FLAG0"
  | .flag1 => "FLAG1"

/-- The opcode mnemonics of R81. -/
def opText : Op → String
  | .kexp => "KEXP"
  | .encb => "ENCB"
  | .decb => "DECB"
  | .kclr => "KCLR"
  | .pad => "PAD"
  | .unpad => "UNPAD"
  | .menc => "MENC"
  | .mdec => "MDEC"
  | .ivre => "IVRE"
  | .ivrd => "IVRD"
  | .ivpp => "IVPP"
  | .b64e => "B64E"
  | .b64d => "B64D"
  | .aese => "AESE"
  | .aesd => "AESD"

/-- The text of a line (R89): `OP[.mode[.scheme]] [policy][, B64]`. -/
def AsmLine.text (l : AsmLine) : String :=
  opText l.op ++ (l.mode.elim "" fun m => "." ++ modeText m) ++ (l.scheme.elim "" fun p => "." ++ schemeText p) ++
    (l.policy.elim "" fun v => " " ++ policyText v) ++ (if l.b64 then ", B64" else "")

/-- The line of an instruction, nothing omitted (R89). -/
def asmOf : Instr → AsmLine
  | .kexp => ⟨.kexp, none, none, none, false⟩
  | .encb => ⟨.encb, none, none, none, false⟩
  | .decb => ⟨.decb, none, none, none, false⟩
  | .kclr => ⟨.kclr, none, none, none, false⟩
  | .padNone => ⟨.pad, none, some .none, none, false⟩
  | .padPkcs7 => ⟨.pad, none, some .pkcs7, none, false⟩
  | .padIso7816_4 => ⟨.pad, none, some .iso7816_4, none, false⟩
  | .padAnsi923 => ⟨.pad, none, some .ansi923, none, false⟩
  | .padIso10126 => ⟨.pad, none, some .iso10126, none, false⟩
  | .padZero => ⟨.pad, none, some .zero, none, false⟩
  | .unpadNone => ⟨.unpad, none, some .none, none, false⟩
  | .unpadPkcs7 => ⟨.unpad, none, some .pkcs7, none, false⟩
  | .unpadIso7816_4 => ⟨.unpad, none, some .iso7816_4, none, false⟩
  | .unpadAnsi923 => ⟨.unpad, none, some .ansi923, none, false⟩
  | .unpadIso10126 => ⟨.unpad, none, some .iso10126, none, false⟩
  | .unpadZero => ⟨.unpad, none, some .zero, none, false⟩
  | .mencEcb => ⟨.menc, some .ecb, none, none, false⟩
  | .mencCbc => ⟨.menc, some .cbc, none, none, false⟩
  | .mencOfb => ⟨.menc, some .ofb, none, none, false⟩
  | .mencCfb => ⟨.menc, some .cfb, none, none, false⟩
  | .mencCtr => ⟨.menc, some .ctr, none, none, false⟩
  | .mencXts => ⟨.menc, some .xts, none, none, false⟩
  | .mdecEcb => ⟨.mdec, some .ecb, none, none, false⟩
  | .mdecCbc => ⟨.mdec, some .cbc, none, none, false⟩
  | .mdecOfb => ⟨.mdec, some .ofb, none, none, false⟩
  | .mdecCfb => ⟨.mdec, some .cfb, none, none, false⟩
  | .mdecCtr => ⟨.mdec, some .ctr, none, none, false⟩
  | .mdecXts => ⟨.mdec, some .xts, none, none, false⟩
  | .ivre mode policy => ⟨.ivre, some mode, none, some policy, false⟩
  | .ivrd mode policy => ⟨.ivrd, some mode, none, some policy, false⟩
  | .ivpp => ⟨.ivpp, none, none, none, false⟩
  | .b64e => ⟨.b64e, none, none, none, false⟩
  | .b64d => ⟨.b64d, none, none, none, false⟩
  | .aeseX mode scheme => ⟨.aese, some mode, some scheme, some .explicit, false⟩
  | .aeseF flag mode scheme => ⟨.aese, some mode, some scheme, some (Policy.ofFlag flag), false⟩
  | .aeseXB64 mode scheme => ⟨.aese, some mode, some scheme, some .explicit, true⟩
  | .aeseFB64 flag mode scheme => ⟨.aese, some mode, some scheme, some (Policy.ofFlag flag), true⟩
  | .aesdX mode scheme => ⟨.aesd, some mode, some scheme, some .explicit, false⟩
  | .aesdF flag mode scheme => ⟨.aesd, some mode, some scheme, some (Policy.ofFlag flag), false⟩
  | .aesdXB64 mode scheme => ⟨.aesd, some mode, some scheme, some .explicit, true⟩
  | .aesdFB64 flag mode scheme => ⟨.aesd, some mode, some scheme, some (Policy.ofFlag flag), true⟩

end Sys2Proof.Machine
end

