-- ==== Sys2Proof/Safety.lean ====
section
/-! DEFINITION. What holds of every state a run can reach: the invariants the spec states of its own state (spec/10_state.md
R20 to R42, spec/45_facade.md R215). Claims about every state that need one name it. -/

namespace Sys2Proof.Machine

/-- KS_VALID is 1 exactly when KS and KS2 hold the expansion of a 32-byte key and of its tweak key (R37, R38); when it is 0
both are all zero. -/
def ScheduleOk (s : State) : Prop :=
  if s.ksValid then
    ∃ key : Bytes, key.length = Config.keyBytes ∧ s.ks = expandKey key ∧ s.ks2 = expandKey (xtsK2 s.params.xtsK2 key)
  else s.ks = zeros Config.scheduleBytes ∧ s.ks2 = zeros Config.scheduleBytes

/-- When EMBED is 1, IV_LEN is 16 (R32). -/
def EmbedOk (s : State) : Prop := s.embed = true → s.ivBuf.length = Config.ivBytes

/-- ERRCODE holds 0 or one of the ten codes of R231, and a command that failed left OUTBUF empty (R215). -/
def ErrorOk (s : State) : Prop := s.errCode.toNat ≤ 10 ∧ (s.errCode ≠ 0 → s.outBuf = [])

/-- Scratch is zero between commands (R40). -/
def ScratchOk (s : State) : Prop := s.scratch = Scratch.zero

/-- While no command has completed since reset (R31), what only a command writes is as reset left it (R42). -/
def FreshOk (s : State) : Prop :=
  s.done = false → s.cmd = 0 ∧ s.errCode = 0 ∧ s.outBuf = [] ∧ s.ksValid = false ∧ s.embed = false

/-- The invariant of the machine. -/
structure Inv (s : State) : Prop where
  memory : Memory.wf s = true
  schedule : ScheduleOk s
  embed : EmbedOk s
  error : ErrorOk s
  scratch : ScratchOk s
  fresh : FreshOk s

/-! ## Words the statements use -/

/-- AESE and AESD, the facade commands (R210). -/
def isFacade : Instr → Bool
  | .aeseX _ _ | .aeseF _ _ _ | .aeseXB64 _ _ | .aeseFB64 _ _ _ => true
  | .aesdX _ _ | .aesdF _ _ _ | .aesdXB64 _ _ | .aesdFB64 _ _ _ => true
  | .kexp | .encb | .decb | .kclr
  | .padNone | .padPkcs7 | .padIso7816_4 | .padAnsi923 | .padIso10126 | .padZero
  | .unpadNone | .unpadPkcs7 | .unpadIso7816_4 | .unpadAnsi923 | .unpadIso10126 | .unpadZero
  | .mencEcb | .mencCbc | .mencOfb | .mencCfb | .mencCtr | .mencXts
  | .mdecEcb | .mdecCbc | .mdecOfb | .mdecCfb | .mdecCtr | .mdecXts
  | .ivre _ _ | .ivrd _ _ | .ivpp | .b64e | .b64d => false

/-- The commands whose rule says "Writes: OUTBUF, ERRCODE, DONE only" and which take no draw (R121, R122, R155, R177, R178,
R195, R203, R204, and R154 for every scheme but ISO10126). -/
def writesResultOnly : Instr → Bool
  | .encb | .decb
  | .padNone | .padPkcs7 | .padIso7816_4 | .padAnsi923 | .padZero
  | .unpadNone | .unpadPkcs7 | .unpadIso7816_4 | .unpadAnsi923 | .unpadIso10126 | .unpadZero
  | .mencEcb | .mencCbc | .mencOfb | .mencCfb | .mencCtr | .mencXts
  | .mdecEcb | .mdecCbc | .mdecOfb | .mdecCfb | .mdecCtr | .mdecXts
  | .ivpp | .b64e | .b64d => true
  | .kexp | .kclr | .padIso10126 | .ivre _ _ | .ivrd _ _
  | .aeseX _ _ | .aeseF _ _ _ | .aeseXB64 _ _ | .aeseFB64 _ _ _
  | .aesdX _ _ | .aesdF _ _ _ | .aesdXB64 _ _ | .aesdFB64 _ _ _ => false

/-- The legal data lengths of a mode, the table of R162. -/
def legalLength (mode : Mode) (len : Nat) : Prop :=
  match mode with
  | .ecb | .cbc => len % 16 = 0
  | .ofb | .cfb | .ctr => True
  | .xts => len = 0 ∨ 16 ≤ len

/-- The IV is as a mode needs it (R161). -/
def legalIv (mode : Mode) (iv : Bytes) : Prop := mode ≠ .ecb → iv.length = 16

/-- The schemes that append something to every input (R157 (a)). -/
def alwaysAppends : Scheme → Bool
  | .pkcs7 | .iso7816_4 | .ansi923 | .iso10126 => true
  | .none | .zero => false

/-- What a command leaves when it fails with code `k` and is no facade command (R243), `s` being the state before it. -/
def failedState (s : State) (k : Byte) : State :=
  { s with outBuf := [], errCode := k, done := true, scratch := Scratch.zero }

/-- What a command that writes nothing else leaves when it succeeds with result `res` (R87 step 5). -/
def resultState (s : State) (res : Bytes) : State :=
  { s with outBuf := res, errCode := 0, done := true, scratch := Scratch.zero }

/-- `FEED` (R91) as its effect: OUTBUF's bytes become the input. -/
def fed (s : State) : State := { s with inBuf := s.outBuf }

end Sys2Proof.Machine
end

