-- ==== Sys2Proof/WellFormed.lean ====
section
/-! DEFINITION. When the fields of a command word are a command (R81, R86, R88), said field by field: the decoder of
Decode.lean works with the mask and match words of R86 instead, and that the two readings agree is an obligation. -/

namespace Sys2Proof

/-- The opcode bytes of R81 that take no operand field (R86). -/
def plainOpcodes : List Byte := [0x01, 0x02, 0x03, 0x04, 0x32, 0x40, 0x41]

/-- The opcode bytes that take `PAD` only: PAD and UNPAD. -/
def padOpcodes : List Byte := [0x10, 0x11]

/-- The opcode bytes that take `MODE` only: MENC and MDEC. -/
def modeOpcodes : List Byte := [0x20, 0x21]

/-- The opcode bytes that take `MODE` and `IVP`: IVRE and IVRD. -/
def ivOpcodes : List Byte := [0x30, 0x31]

/-- The opcode bytes that take `MODE`, `PAD`, `IVP` and `B64`: AESE and AESD. -/
def facadeOpcodes : List Byte := [0x50, 0x51]

namespace CommandFields

/-- `OP` is one of the fifteen values of R81. -/
def opDefined (f : CommandFields) : Bool :=
  (plainOpcodes ++ padOpcodes ++ modeOpcodes ++ ivOpcodes ++ facadeOpcodes).contains f.op

/-- Bits 11, 15 and 31:19 are zero (R80). -/
def reservedClear (f : CommandFields) : Bool := !f.bit11 && !f.bit15 && f.high == 0

/-- The opcode takes `MODE` (R86). -/
def takesMode (f : CommandFields) : Bool := (modeOpcodes ++ ivOpcodes ++ facadeOpcodes).contains f.op

/-- The opcode takes `PAD` (R86). -/
def takesPad (f : CommandFields) : Bool := (padOpcodes ++ facadeOpcodes).contains f.op

/-- The opcode takes `IVP` (R86). -/
def takesIvp (f : CommandFields) : Bool := (ivOpcodes ++ facadeOpcodes).contains f.op

/-- The opcode takes `B64` (R85, R86). -/
def takesB64 (f : CommandFields) : Bool := facadeOpcodes.contains f.op

/-- Every operand field the opcode does not take is zero (R86). -/
def untakenClear (f : CommandFields) : Bool :=
  (f.takesMode || f.mode == 0) && (f.takesPad || f.pad == 0) && (f.takesIvp || f.ivp == 0) && (f.takesB64 || !f.b64)

/-- No operand field holds a reserved code: `MODE` and `PAD` at most 5, `IVP` not `0b01` (R82 to R84). -/
def codesLegal (f : CommandFields) : Bool := f.mode.toNat ≤ 5 && f.pad.toNat ≤ 5 && f.ivp != 1

/-- The word is a well-formed instance of its opcode (R86, R88 (a)). -/
def wellFormed (f : CommandFields) : Bool := f.opDefined && f.reservedClear && f.untakenClear

end CommandFields

end Sys2Proof
end

