-- ==== Sys2Proof/Certificates/Slice0/Obligations.lean ====
section
/-! DEFINITION. The statements about the model, from the numbered rules of spec/. OBLIGATIONS.json lists them. -/

open Sys2Proof Sys2Proof.Machine

/-! ## Encoding and decoding -/

/-- Decoding and encoding are inverse to each other (R86, R87, R88): decoding an instruction's word gives the instruction,
and a word that decodes to an instruction is that instruction's word, so one word has one meaning. -/
def Obligations.DecodeAndEncodeAreInverse : Prop :=
  (∀ i : Instr, decode (encode i) = .ok i) ∧ ∀ (w : Word) (i : Instr), decode w = .ok i → encode i = w

/-- R88 (a), (b): a word fails decode with IllegalCommand exactly when it is not well-formed (undefined opcode, a reserved
bit, or a bit in a field its opcode does not take), with UnsupportedModeOption exactly when it is well-formed and holds a
reserved code, and otherwise it is an instruction. -/
def Obligations.DecodeRefusesExactlyBadWords : Prop :=
  ∀ w : Word,
    (decode w = .error .illegalCommand ↔ (fieldsOf w).wellFormed = false) ∧
    (decode w = .error .unsupportedModeOption ↔ (fieldsOf w).wellFormed = true ∧ (fieldsOf w).codesLegal = false) ∧
    ((∃ i, decode w = .ok i) ↔ (fieldsOf w).wellFormed = true ∧ (fieldsOf w).codesLegal = true)

/-- The example words of R89 and the word that spec/95_test_vectors.md section 10 decodes by hand decode to what they stand for,
and the all-zero and all-ones words are illegal (R88 (a)). -/
def Obligations.SampleWordsDecode : Prop :=
  decode 0x00000001 = .ok .kexp ∧ decode 0x00001010 = .ok .padPkcs7 ∧ decode 0x00002011 = .ok .unpadIso7816_4 ∧
  decode 0x00000420 = .ok .mencCtr ∧ decode 0x00000121 = .ok .mdecCbc ∧
  decode 0x00030130 = .ok (.ivre .cbc .flag1) ∧ decode 0x00000032 = .ok .ivpp ∧ decode 0x00000041 = .ok .b64d ∧
  decode 0x00001150 = .ok (.aeseX .cbc .pkcs7) ∧ decode 0x00000550 = .ok (.aeseX .xts .none) ∧
  decode 0x00071450 = .ok (.aeseFB64 true .ctr .pkcs7) ∧ decode 0x00071451 = .ok (.aesdFB64 true .ctr .pkcs7) ∧
  decode 0x00000000 = .error .illegalCommand ∧ decode 0xFFFFFFFF = .error .illegalCommand

/-- The word of an instruction's assembler line is the instruction's word, and for AESE and AESD an omitted mode is CBC and
an omitted scheme PKCS7, with the mode given or omitted (R89). -/
def Obligations.AssembledLineIsTheInstructionsWord : Prop :=
  (∀ i : Instr, (asmOf i).word = encode i) ∧
  ∀ m p v b,
    (AsmLine.mk .aese none none (some v) b).word = encode (.aeseOf .cbc .pkcs7 v b) ∧
    (AsmLine.mk .aese (some m) none (some v) b).word = encode (.aeseOf m .pkcs7 v b) ∧
    (AsmLine.mk .aese (some m) (some p) (some v) b).word = encode (.aeseOf m p v b) ∧
    (AsmLine.mk .aesd none none (some v) b).word = encode (.aesdOf .cbc .pkcs7 v b) ∧
    (AsmLine.mk .aesd (some m) none (some v) b).word = encode (.aesdOf m .pkcs7 v b) ∧
    (AsmLine.mk .aesd (some m) (some p) (some v) b).word = encode (.aesdOf m p v b)

/-! ## The step and the host's transactions -/

/-- A step runs the decoded instruction: when the host's next transaction writes a word that decodes to `i`, the step is
`exec i` with CMD holding the word, and the host's reply; a result that a bounded BUF_CAP cannot hold refuses the whole
transaction (V10). -/
def Obligations.StepRunsTheDecodedCommand : Prop :=
  ∀ (s : State) (w : Word) (rest : List HostTxn) (i : Instr) (t : State),
    s.pending = .cmd w :: rest → decode w = .ok i → exec i { s with pending := rest, cmd := w } = .next t →
    step s = .next (if fits t.outBuf.length t.params.bufCap then { t with reply := .done }
      else { s with pending := rest, reply := .refused })

/-- A word that fails decode fails as a command (R87 steps 1 to 3, R231, R243): CMD holds it, OUTBUF is empty, ERRCODE holds 9
for an IllegalCommand and 7 for an UnsupportedModeOption, the only two kinds there are, DONE is 1, scratch is zero; nothing
else of the core changes, the schedule included. -/
def Obligations.StepFailsUndecodableWord : Prop :=
  ∀ (s : State) (w : Word) (rest : List HostTxn) (k : ErrorKind),
    s.pending = .cmd w :: rest → decode w = .error k →
    (k = .illegalCommand ∨ k = .unsupportedModeOption) ∧
    step s = .next { s with
      pending := rest, cmd := w, outBuf := [], errCode := if k = .illegalCommand then 9 else 7, done := true
      scratch := Scratch.zero, reply := .done }

/-- R61: with no transaction pending the hardware does nothing. -/
def Obligations.StepIdlesBetweenTransactions : Prop := ∀ s : State, s.pending = [] → step s = .next s

/-- R62: a load replaces the whole buffer, and for IVBUF clears EMBED; one above the capacity (64, 32, BUF_CAP) is refused, as
is a load of OUTBUF; nothing else changes. -/
def Obligations.LoadReplacesTheBuffer : Prop :=
  ∀ (s : State) (rest : List HostTxn) (bytes : Bytes),
    (s.pending = .load .keyBuf bytes :: rest →
      step s = .next (if bytes.length ≤ 64 then { s with pending := rest, reply := .done, keyBuf := bytes }
        else { s with pending := rest, reply := .refused })) ∧
    (s.pending = .load .ivBuf bytes :: rest →
      step s = .next (if bytes.length ≤ 32 then { s with pending := rest, reply := .done, ivBuf := bytes, embed := false }
        else { s with pending := rest, reply := .refused })) ∧
    (s.pending = .load .inBuf bytes :: rest →
      step s = .next (if s.params.bufCap.elim true (fun cap => decide (bytes.length ≤ cap))
        then { s with pending := rest, reply := .done, inBuf := bytes }
        else { s with pending := rest, reply := .refused })) ∧
    (s.pending = .load .outBuf bytes :: rest → step s = .next { s with pending := rest, reply := .refused })

/-- R63: a read of IVBUF, INBUF or OUTBUF returns what it holds, without side effect; a read of KEYBUF is refused. -/
def Obligations.ReadBufReturnsTheBuffer : Prop :=
  ∀ (s : State) (rest : List HostTxn),
    (s.pending = .readBuf .ivBuf :: rest → step s = .next { s with pending := rest, reply := .bytes s.ivBuf }) ∧
    (s.pending = .readBuf .inBuf :: rest → step s = .next { s with pending := rest, reply := .bytes s.inBuf }) ∧
    (s.pending = .readBuf .outBuf :: rest → step s = .next { s with pending := rest, reply := .bytes s.outBuf }) ∧
    (s.pending = .readBuf .keyBuf :: rest → step s = .next { s with pending := rest, reply := .refused })

/-- R64: `H_RDREG n` returns register `n` without side effect: CMD, STATUS, ERRCODE and the four lengths; `n > 6` is
refused. -/
def Obligations.ReadRegReturnsTheRegister : Prop :=
  ∀ (s : State) (rest : List HostTxn) (n : Nat), s.pending = .readReg n :: rest →
    step s = .next { s with
      pending := rest
      reply :=
        if n = 0 then .value s.cmd.toNat
        else if n = 1 then .value s.status.toNat
        else if n = 2 then .value s.errCode.toNat
        else if n = 3 then .value s.keyBuf.length
        else if n = 4 then .value s.ivBuf.length
        else if n = 5 then .value s.inBuf.length
        else if n = 6 then .value s.outBuf.length
        else .refused }

/-- R27, R28: a host write to register 0 is the command write; to any other register number it is refused and changes
nothing. -/
def Obligations.OnlyCmdIsWritable : Prop :=
  ∀ (s : State) (rest : List HostTxn) (n : Nat) (w : Word), s.pending = .writeReg n w :: rest →
    step s = (if n = 0 then step { s with pending := .cmd w :: rest }
      else .next { s with pending := rest, reply := .refused })

/-- R29, R30, R33: the bits of STATUS: DONE, ERR (1 exactly when ERRCODE is not 0), KS_VALID, EMBED, BUSY reading 0, and bits
31:5 reading 0. -/
def Obligations.StatusBits : Prop :=
  ∀ s : State,
    s.status.getLsbD 0 = s.done ∧ (s.status.getLsbD 1 = true ↔ s.errCode ≠ 0) ∧ s.status.getLsbD 2 = s.ksValid ∧
    s.status.getLsbD 3 = s.embed ∧ s.status.getLsbD 4 = false ∧ ∀ n, 5 ≤ n → s.status.getLsbD n = false

/-- R42, R260: reset leaves the four buffers empty, CMD, ERRCODE, DONE, EMBED and KS_VALID zero, KS and KS2 all zero, scratch
zero, so STATUS reads 0. The parameters, the host's pending transactions and the random source are not the core's. -/
def Obligations.ResetClearsEverything : Prop :=
  ∀ (s : State) (rest : List HostTxn), s.pending = .reset :: rest →
    ∃ t : State, step s = .next t ∧
      t = { keyBuf := [], ivBuf := [], inBuf := [], outBuf := [], cmd := 0, done := false, errCode := 0, embed := false,
            ks := List.replicate 240 0, ks2 := List.replicate 240 0, ksValid := false,
            scratch := { state := List.replicate 16 0, rnd := 0, blk := 0, chain := List.replicate 16 0,
                         kstream := List.replicate 16 0, tweak := List.replicate 16 0 },
            params := s.params, pending := rest, reply := .done, entropy := s.entropy, draws := s.draws } ∧
      t.status = 0

/-- Every step answers a next state: no transaction and no command word stops the machine (R88 (d), R245). -/
def Obligations.StepNeverStops : Prop := ∀ s : State, ∃ t, step s = .next t

/-! ## The Block Cipher Core's commands -/

/-- R120: KEXP, the word 0x00000001, expands KEYBUF into KS and its tweak key into KS2 and sets KS_VALID, or fails with
InvalidKeyLength and keeps the schedule it had. -/
def Obligations.KexpExpandsTheKey : Prop :=
  decode 0x00000001 = .ok .kexp ∧ ∀ s : State,
    (s.keyBuf.length = 32 → exec .kexp s = .next { s with
      ks := expandKey s.keyBuf, ks2 := expandKey (xtsK2 s.params.xtsK2 s.keyBuf), ksValid := true
      outBuf := [], errCode := 0, done := true, scratch := Scratch.zero }) ∧
    (s.keyBuf.length ≠ 32 → exec .kexp s = .next { s with
      outBuf := [], errCode := 1, done := true, scratch := Scratch.zero })

/-- R121, R122: ENCB and DECB, the words 0x00000002 and 0x00000003, put one block through EncryptBlock or DecryptBlock under
KS; without a schedule they fail with NoSchedule (10), with an INBUF that is not 16 bytes with InvalidInputLength (8), in
this order. -/
def Obligations.EncbAndDecbCryptOneBlock : Prop :=
  decode 0x00000002 = .ok .encb ∧ decode 0x00000003 = .ok .decb ∧ ∀ s : State,
    (s.ksValid = true → s.inBuf.length = 16 →
      exec .encb s = .next { s with
        outBuf := encryptBlock s.ks s.inBuf, errCode := 0, done := true, scratch := Scratch.zero } ∧
      exec .decb s = .next { s with
        outBuf := decryptBlock s.ks s.inBuf, errCode := 0, done := true, scratch := Scratch.zero }) ∧
    (s.ksValid = false → exec .encb s = .next (failedState s 10) ∧ exec .decb s = .next (failedState s 10)) ∧
    (s.ksValid = true → s.inBuf.length ≠ 16 →
      exec .encb s = .next (failedState s 8) ∧ exec .decb s = .next (failedState s 8))

/-- R123: KCLR, the word 0x00000004, destroys the schedule and never fails. -/
def Obligations.KclrDestroysTheSchedule : Prop :=
  decode 0x00000004 = .ok .kclr ∧ ∀ s : State, exec .kclr s = .next { s with
    ks := List.replicate 240 0, ks2 := List.replicate 240 0, ksValid := false
    outBuf := [], errCode := 0, done := true, scratch := Scratch.zero }

/-! ## The Padding Engine's commands -/

/-- R141 to R146, R154: what each PAD row appends to INBUF, `n` being `16 - (IN_LEN mod 16)`; PAD.NONE fails with
UnalignedInput (3) on an unaligned INBUF; only PAD.ISO10126 draws, `n - 1` bytes in one call. -/
def Obligations.PadAppendsThePadding : Prop :=
  ∀ (s : State) (n : Nat), n = 16 - s.inBuf.length % 16 →
    (s.inBuf.length % 16 = 0 → exec .padNone s = .next (resultState s s.inBuf)) ∧
    (s.inBuf.length % 16 ≠ 0 → exec .padNone s = .next (failedState s 3)) ∧
    exec .padPkcs7 s = .next (resultState s (s.inBuf ++ List.replicate n (BitVec.ofNat 8 n))) ∧
    exec .padIso7816_4 s = .next (resultState s (s.inBuf ++ [0x80] ++ List.replicate (n - 1) 0x00)) ∧
    exec .padAnsi923 s = .next (resultState s (s.inBuf ++ List.replicate (n - 1) 0x00 ++ [BitVec.ofNat 8 n])) ∧
    exec .padIso10126 s =
      .next (resultState (s.drawn (n - 1)) (s.inBuf ++ s.rand (n - 1) ++ [BitVec.ofNat 8 n])) ∧
    exec .padZero s = .next (resultState s (s.inBuf ++ List.replicate (n % 16) 0x00))

/-- R147 to R153, R155: each UNPAD row returns the data `d` that its scheme's padding follows in INBUF, for every form that
scheme accepts. -/
def Obligations.UnpadRemovesThePadding : Prop :=
  ∀ (s : State) (d : Bytes), s.inBuf.length % 16 = 0 →
    (s.inBuf = d → exec .unpadNone s = .next (resultState s d)) ∧
    (∀ n, 1 ≤ n → n ≤ 16 → s.inBuf = d ++ List.replicate n (BitVec.ofNat 8 n) →
      exec .unpadPkcs7 s = .next (resultState s d)) ∧
    (∀ z, z ≤ 15 → s.inBuf = d ++ [0x80] ++ List.replicate z 0x00 →
      exec .unpadIso7816_4 s = .next (resultState s d)) ∧
    (∀ n, 1 ≤ n → n ≤ 16 → s.inBuf = d ++ List.replicate (n - 1) 0x00 ++ [BitVec.ofNat 8 n] →
      exec .unpadAnsi923 s = .next (resultState s d)) ∧
    (∀ fill : Bytes, fill.length ≤ 15 → s.inBuf = d ++ fill ++ [BitVec.ofNat 8 (fill.length + 1)] →
      exec .unpadIso10126 s = .next (resultState s d)) ∧
    (∀ z, d.getLast? ≠ some 0x00 → s.inBuf = d ++ List.replicate z 0x00 →
      exec .unpadZero s = .next (resultState s d))

/-- R147, R155, R235: an UNPAD row fails with UnalignedInput (3) on an unaligned INBUF; and on an aligned one with
InvalidPadding (4) whenever no data and padding of its scheme make up INBUF. UNPAD.NONE and UNPAD.ZERO never fail so. -/
def Obligations.UnpadRejectsEverythingElse : Prop :=
  ∀ s : State,
    (s.inBuf.length % 16 ≠ 0 → ∀ p, exec (.unpadOf p) s = .next (failedState s 3)) ∧
    (s.inBuf.length % 16 = 0 →
      ((¬∃ d n, 1 ≤ n ∧ n ≤ 16 ∧ s.inBuf = d ++ List.replicate n (BitVec.ofNat 8 n)) →
        exec .unpadPkcs7 s = .next (failedState s 4)) ∧
      ((¬∃ d z, z ≤ 15 ∧ s.inBuf = d ++ [0x80] ++ List.replicate z 0x00) →
        exec .unpadIso7816_4 s = .next (failedState s 4)) ∧
      ((¬∃ d n, 1 ≤ n ∧ n ≤ 16 ∧ s.inBuf = d ++ List.replicate (n - 1) 0x00 ++ [BitVec.ofNat 8 n]) →
        exec .unpadAnsi923 s = .next (failedState s 4)) ∧
      ((¬∃ d fill : Bytes, fill.length ≤ 15 ∧ s.inBuf = d ++ fill ++ [BitVec.ofNat 8 (fill.length + 1)]) →
        exec .unpadIso10126 s = .next (failedState s 4)) ∧
      ∃ t u, exec .unpadNone s = .next t ∧ t.errCode = 0 ∧ exec .unpadZero s = .next u ∧ u.errCode = 0)

/-- R157: unpadding undoes padding: (a) for the four always-appending schemes on every input and draw; (b) for None on
aligned input, and `Pad` fails on every other; (c) for ZERO exactly when the input is empty or does not end in a zero byte;
(d) the padded length is aligned; (e) what each scheme adds. -/
def Obligations.UnpadInvertsPad : Prop :=
  ∀ (x fill : Bytes) (p : Scheme), fill.length = padDraw p x.length →
    (alwaysAppends p = true →
      ∃ y, padData p x fill = .ok y ∧ unpadData p y = .ok x ∧ y.length = x.length + (16 - x.length % 16)) ∧
    (x.length % 16 = 0 → padData .none x fill = .ok x ∧ unpadData .none x = .ok x) ∧
    (x.length % 16 ≠ 0 → padData .none x fill = .error .unalignedInput) ∧
    (∃ y, padData .zero x fill = .ok y ∧ y.length % 16 = 0 ∧ y.length < x.length + 16 ∧
      (unpadData .zero y = .ok x ↔ x.getLast? ≠ some 0x00)) ∧
    ∀ y, padData p x fill = .ok y → y.length % 16 = 0 ∧ y.take x.length = x

/-! ## The Mode Driver's commands -/

/-- R160 to R164, R177, R178: every MENC and MDEC row, with a schedule, the IV its mode needs and data of a legal length,
leaves the mode's encryption or decryption of INBUF in OUTBUF and writes nothing else. -/
def Obligations.MencAndMdecRunTheMode : Prop :=
  ∀ (s : State) (m : Mode), s.ksValid = true → legalIv m s.ivBuf → legalLength m s.inBuf.length →
    exec (.mencOf m) s = .next (resultState s (driveEncrypt m s.inBuf s.ks s.ks2 s.ivBuf)) ∧
    exec (.mdecOf m) s = .next (resultState s (driveDecrypt m s.inBuf s.ks s.ks2 s.ivBuf))

/-- R161 to R163, R242: MENC and MDEC fail, in this order, with NoSchedule (10), InvalidIvLength (2), and for an illegal
length UnalignedInput (3) in ECB and CBC or InvalidInputLength (8) in XTS. -/
def Obligations.ModeCommandsFailInOrder : Prop :=
  ∀ (s : State) (m : Mode) (i : Instr), i = .mencOf m ∨ i = .mdecOf m →
    (s.ksValid = false → exec i s = .next (failedState s 10)) ∧
    (s.ksValid = true → ¬legalIv m s.ivBuf → exec i s = .next (failedState s 2)) ∧
    (s.ksValid = true → legalIv m s.ivBuf → ¬legalLength m s.inBuf.length →
      exec i s = .next (failedState s (if m = .xts then 8 else 3)))

/-- R164 to R167: ECB and CBC block by block, on aligned data and as long as it: `Y[j] = E(X[j])`, whatever the IV;
`Y[j] = E(X[j] XOR Y[j-1])` with the IV for `Y[-1]`; and the decryptions `Y[j] = D(X[j])`, `Y[j] = D(X[j]) XOR X[j-1]`. -/
def Obligations.BlockModesBlockByBlock : Prop :=
  ∀ (ks ks2 iv data : Bytes), ks.length = 240 → data.length % 16 = 0 →
    (driveEncrypt .ecb data ks ks2 iv).length = data.length ∧ (driveDecrypt .ecb data ks ks2 iv).length = data.length ∧
    (∀ j, 16 * j < data.length →
      blockAt (driveEncrypt .ecb data ks ks2 iv) j = encryptBlock ks (blockAt data j) ∧
      blockAt (driveDecrypt .ecb data ks ks2 iv) j = decryptBlock ks (blockAt data j)) ∧
    (iv.length = 16 →
      (driveEncrypt .cbc data ks ks2 iv).length = data.length ∧ (driveDecrypt .cbc data ks ks2 iv).length = data.length ∧
      ∀ j, 16 * j < data.length →
        blockAt (driveEncrypt .cbc data ks ks2 iv) j = encryptBlock ks (xorBytes (blockAt data j)
          (if j = 0 then iv else blockAt (driveEncrypt .cbc data ks ks2 iv) (j - 1))) ∧
        blockAt (driveDecrypt .cbc data ks ks2 iv) j = xorBytes (decryptBlock ks (blockAt data j))
          (if j = 0 then iv else blockAt data (j - 1)))

/-- R168 to R172: the stream modes block by block, on data of every length and as long as it, a short last block included:
block `j` is the data block XOR the first bytes of its keystream block, which is the IV encrypted `j + 1` times (OFB), the
encryption of the previous ciphertext block (CFB), the encryption of the counter `iv + j mod 2^128` (CTR). OFB and CTR
decrypt as they encrypt. -/
def Obligations.StreamModesBlockByBlock : Prop :=
  ∀ (ks ks2 iv data : Bytes), ks.length = 240 → iv.length = 16 →
    (∀ m, streamMode m = true →
      (driveEncrypt m data ks ks2 iv).length = data.length ∧ (driveDecrypt m data ks ks2 iv).length = data.length) ∧
    driveDecrypt .ofb data ks ks2 iv = driveEncrypt .ofb data ks ks2 iv ∧
    driveDecrypt .ctr data ks ks2 iv = driveEncrypt .ctr data ks ks2 iv ∧
    ∀ j, 16 * j < data.length →
      blockAt (driveEncrypt .ofb data ks ks2 iv) j = xorBytes (blockAt data j) ((encryptBlock ks)^[j + 1] iv) ∧
      blockAt (driveEncrypt .cfb data ks ks2 iv) j = xorBytes (blockAt data j) (encryptBlock ks
        (if j = 0 then iv else blockAt (driveEncrypt .cfb data ks ks2 iv) (j - 1))) ∧
      blockAt (driveDecrypt .cfb data ks ks2 iv) j = xorBytes (blockAt data j) (encryptBlock ks
        (if j = 0 then iv else blockAt data (j - 1))) ∧
      blockAt (driveEncrypt .ctr data ks ks2 iv) j =
        xorBytes (blockAt data j) (encryptBlock ks (beOfNat ((beToNat iv + j) % 2 ^ 128)))

/-- R173 to R175: XTS encryption: with tweaks `T[0] = EncryptBlock(KS2, iv)`, `T[j+1] = MulAlpha(T[j])`, every block before
the last full one, and on aligned data the last too, is `E(X[j] XOR T[j]) XOR T[j]`; with a partial block of `b` bytes after
`m` full ones the last two output blocks are those of ciphertext stealing. The result is as long as the data. -/
def Obligations.XtsEncryptsBlockByBlock : Prop :=
  ∀ (ks ks2 iv data : Bytes) (m b : Nat) (tweak : Nat → Bytes), ks.length = 240 → ks2.length = 240 → iv.length = 16 →
    16 ≤ data.length → m = data.length / 16 → b = data.length % 16 →
    tweak 0 = encryptBlock ks2 iv → (∀ j, tweak (j + 1) = mulAlpha (tweak j)) →
    (driveEncrypt .xts data ks ks2 iv).length = data.length ∧
    (∀ j, j < (if b = 0 then m else m - 1) →
      blockAt (driveEncrypt .xts data ks ks2 iv) j =
        xorBytes (encryptBlock ks (xorBytes (blockAt data j) (tweak j))) (tweak j)) ∧
    (b ≠ 0 → ∀ cc pp,
      cc = xorBytes (encryptBlock ks (xorBytes (blockAt data (m - 1)) (tweak (m - 1)))) (tweak (m - 1)) →
      pp = blockAt data m ++ cc.drop b →
      blockAt (driveEncrypt .xts data ks ks2 iv) (m - 1) = xorBytes (encryptBlock ks (xorBytes pp (tweak m))) (tweak m) ∧
      blockAt (driveEncrypt .xts data ks ks2 iv) m = cc.take b)

/-- R176: XTS decryption: the tweaks as in encryption; every block before the last full one, and on aligned data the last
too, is `D(X[j] XOR T[j]) XOR T[j]`; with a partial block the last full block is undone with the LAST tweak, and the block
made of the partial one and the stolen bytes with the tweak before it. The result is as long as the data. -/
def Obligations.XtsDecryptsBlockByBlock : Prop :=
  ∀ (ks ks2 iv data : Bytes) (m b : Nat) (tweak : Nat → Bytes), ks.length = 240 → ks2.length = 240 → iv.length = 16 →
    16 ≤ data.length → m = data.length / 16 → b = data.length % 16 →
    tweak 0 = encryptBlock ks2 iv → (∀ j, tweak (j + 1) = mulAlpha (tweak j)) →
    (driveDecrypt .xts data ks ks2 iv).length = data.length ∧
    (∀ j, j < (if b = 0 then m else m - 1) →
      blockAt (driveDecrypt .xts data ks ks2 iv) j =
        xorBytes (decryptBlock ks (xorBytes (blockAt data j) (tweak j))) (tweak j)) ∧
    (b ≠ 0 → ∀ pp cc,
      pp = xorBytes (decryptBlock ks (xorBytes (blockAt data (m - 1)) (tweak m))) (tweak m) →
      cc = blockAt data m ++ pp.drop b →
      blockAt (driveDecrypt .xts data ks ks2 iv) (m - 1) =
        xorBytes (decryptBlock ks (xorBytes cc (tweak (m - 1)))) (tweak (m - 1)) ∧
      blockAt (driveDecrypt .xts data ks ks2 iv) m = pp.take b)

/-- R171, R174: `Inc128` adds 1 modulo 2^128 to the block read as one big-endian integer; `MulAlpha` shifts the block read
little-endian (its reverse read big-endian) one place up and adds `0x87`, that is `x^7 + x^2 + x + 1`, when the coefficient
of `x^127` was 1; both give a block. -/
def Obligations.CounterAndTweakStep : Prop :=
  ∀ t : Bytes, t.length = 16 →
    (inc128 t).length = 16 ∧ beToNat (inc128 t) = (beToNat t + 1) % 2 ^ 128 ∧ (mulAlpha t).length = 16 ∧
    beToNat (mulAlpha t).reverse =
      (2 * beToNat t.reverse % 2 ^ 128) ^^^ (if 2 ^ 127 ≤ beToNat t.reverse then 0x87 else 0)

/-- R180 (c): equal data blocks give equal result blocks in ECB; in CBC exactly when the two chaining values are equal. -/
def Obligations.EqualBlocksInEcbAndCbc : Prop :=
  ∀ (ks ks2 iv data : Bytes) (j k : Nat), ks.length = 240 → iv.length = 16 → data.length % 16 = 0 →
    16 * j < data.length → 16 * k < data.length → blockAt data j = blockAt data k →
    blockAt (driveEncrypt .ecb data ks ks2 iv) j = blockAt (driveEncrypt .ecb data ks ks2 iv) k ∧
    ∀ chain : Nat → Bytes,
      (∀ n, chain n = if n = 0 then iv else blockAt (driveEncrypt .cbc data ks ks2 iv) (n - 1)) →
      (blockAt (driveEncrypt .cbc data ks ks2 iv) j = blockAt (driveEncrypt .cbc data ks ks2 iv) k ↔ chain j = chain k)

/-- R180 (a): decryption in a mode undoes encryption in it, for every mode, schedule, 16-byte IV and data of legal length. -/
def Obligations.ModeDecryptInvertsModeEncrypt : Prop :=
  ∀ (m : Mode) (data ks ks2 iv : Bytes), ks.length = 240 → ks2.length = 240 → iv.length = 16 → legalLength m data.length →
    ∃ c, modeEncrypt m data ks ks2 iv = .ok c ∧ modeDecrypt m c ks ks2 iv = .ok data

/-- R180 (b): no driver changes the length. -/
def Obligations.ModesKeepTheLength : Prop :=
  ∀ (m : Mode) (data ks ks2 iv : Bytes), ks.length = 240 → ks2.length = 240 → iv.length = 16 → legalLength m data.length →
    (driveEncrypt m data ks ks2 iv).length = data.length ∧ (driveDecrypt m data ks ks2 iv).length = data.length

/-- R180 (d), (e): OFB and CTR are involutions; in OFB, CFB and CTR a part of the data from its start encrypts to as much
of the result from its start. -/
def Obligations.StreamModesAreKeystreams : Prop :=
  ∀ (data ks ks2 iv : Bytes) (n : Nat), ks.length = 240 → iv.length = 16 →
    driveEncrypt .ofb (driveEncrypt .ofb data ks ks2 iv) ks ks2 iv = data ∧
    driveEncrypt .ctr (driveEncrypt .ctr data ks ks2 iv) ks ks2 iv = data ∧
    ∀ m, streamMode m = true →
      driveEncrypt m (data.take n) ks ks2 iv = (driveEncrypt m data ks ks2 iv).take n

/-! ## The IV Manager's commands -/

/-- R191, R193: IVRE in ECB, or with EXPLICIT, only clears EMBED; with FLAG1 in a mode that needs an IV it draws 16 bytes
into IVBUF and sets EMBED; with FLAG0 it empties IVBUF. It never fails. -/
def Obligations.IvreResolvesTheIv : Prop :=
  ∀ (s : State) (m : Mode) (v : Policy),
    exec (.ivre m v) s = .next (
      if m = .ecb ∨ v = .explicit then
        { s with embed := false, outBuf := [], errCode := 0, done := true, scratch := Scratch.zero }
      else if v = .flag1 then
        { s with
          ivBuf := s.rand 16, embed := true, entropy := s.entropy.drop 16, draws := s.draws + 16
          outBuf := [], errCode := 0, done := true, scratch := Scratch.zero }
      else
        { s with ivBuf := [], embed := false, outBuf := [], errCode := 0, done := true, scratch := Scratch.zero })

/-- R192, R194: IVRD in ECB, or with EXPLICIT, passes INBUF through; with FLAG1 in a mode that needs an IV it takes the first
16 bytes as the IV and returns the rest, or fails with MissingIv (5) below 16 bytes, IVBUF and EMBED unchanged; with FLAG0 it
empties IVBUF. EMBED is 0 after success. Its word is `0x00000031 | mode << 8 | policy << 16`. -/
def Obligations.IvrdExtractsTheIv : Prop :=
  ∀ (s : State) (m : Mode) (v : Policy),
    encode (.ivrd m v) = 0x00000031 ||| m.code <<< 8 ||| v.code <<< 16 ∧
    exec (.ivrd m v) s = .next (
      if m = .ecb ∨ v = .explicit then resultState { s with embed := false } s.inBuf
      else if v = .flag1 then
        if s.inBuf.length < 16 then failedState s 5
        else resultState { s with ivBuf := s.inBuf.take 16, embed := false } (s.inBuf.drop 16)
      else resultState { s with ivBuf := [], embed := false } s.inBuf)

/-- R195: IVPP, the word 0x00000032, prepends IVBUF when EMBED is 1, else copies INBUF; it writes OUTBUF, ERRCODE and DONE
only and never fails. -/
def Obligations.IvppPrependsTheIv : Prop :=
  decode 0x00000032 = .ok .ivpp ∧
  ∀ s : State, exec .ivpp s = .next (resultState s (if s.embed = true then s.ivBuf ++ s.inBuf else s.inBuf))

/-- R196 (a): what IVPP gives after IVRE with FLAG1 in a mode that needs an IV, fed to IVRD with FLAG1, gives back the IV and
the ciphertext, whatever was drawn. -/
def Obligations.EmbeddedIvIsRecovered : Prop :=
  ∀ (s t u v : State) (m : Mode) (c : Bytes), m ≠ .ecb →
    exec (.ivre m .flag1) s = .next t → exec .ivpp { t with inBuf := c } = .next u →
    exec (.ivrd m .flag1) (fed u) = .next v →
    v.errCode = 0 ∧ v.outBuf = c ∧ v.ivBuf = t.ivBuf ∧ v.embed = false ∧ t.ivBuf.length = 16

/-! ## The Base64 Codec's commands -/

/-- R203, R204: B64E (0x00000040) leaves the encoding of INBUF in OUTBUF and never fails; B64D (0x00000041) on a text that
decodes leaves its bytes, and on any other fails with InvalidBase64 (6); neither writes anything else. -/
def Obligations.Base64Commands : Prop :=
  decode 0x00000040 = .ok .b64e ∧ decode 0x00000041 = .ok .b64d ∧ ∀ s : State,
    exec .b64e s = .next (resultState s (b64Encode s.inBuf)) ∧
    (∀ d, b64Decode s.inBuf = .ok d → exec .b64d s = .next (resultState s d)) ∧
    (∀ k, b64Decode s.inBuf = .error k → exec .b64d s = .next (failedState s 6))

/-- R200: the 64 value characters in the order of their values, `A` to `Z`, `a` to `z`, `0` to `9`, `+`, `/`, and `Val`, which is
defined for exactly these and undoes `Chr`; `=` is none of them. -/
def Obligations.Base64AlphabetIsABijection : Prop :=
  (List.range 64).map b64Chr =
    "ABCDEFGHIJKLMNOPQRSTUVWXYZabcdefghijklmnopqrstuvwxyz0123456789+/".toList.map (fun c => BitVec.ofNat 8 c.toNat) ∧
  (∀ v, v < 64 → b64Val (b64Chr v) = some v) ∧
  (∀ (c : Byte) (v : Nat), b64Val c = some v → v < 64 ∧ b64Chr v = c) ∧ b64Val 0x3D = none

/-- R201, R205: a group of three bytes is one 24-bit number, the first byte most significant, and its four 6-bit parts from the
top are the four characters; a missing byte counts as 0 and its character is `=`. The text has `4 * ceil(n / 3)` characters,
each a value character or `=`. Decoding it gives the data back, for all data. -/
def Obligations.Base64RoundTrip : Prop :=
  (b64Encode [] = [] ∧
    (∀ a : Byte, ∀ v : BitVec 24, v = a.setWidth 24 <<< 16 →
      b64Encode [a] = [b64Chr (v.extractLsb' 18 6).toNat, b64Chr (v.extractLsb' 12 6).toNat, 0x3D, 0x3D]) ∧
    (∀ a b : Byte, ∀ v : BitVec 24, v = a.setWidth 24 <<< 16 ||| b.setWidth 24 <<< 8 →
      b64Encode [a, b] = [b64Chr (v.extractLsb' 18 6).toNat, b64Chr (v.extractLsb' 12 6).toNat,
        b64Chr (v.extractLsb' 6 6).toNat, 0x3D]) ∧
    (∀ (a b c : Byte) (rest : Bytes), ∀ v : BitVec 24, v = a.setWidth 24 <<< 16 ||| b.setWidth 24 <<< 8 ||| c.setWidth 24 →
      b64Encode ([a, b, c] ++ rest) = [b64Chr (v.extractLsb' 18 6).toNat, b64Chr (v.extractLsb' 12 6).toNat,
        b64Chr (v.extractLsb' 6 6).toNat, b64Chr (v.extractLsb' 0 6).toNat] ++ b64Encode rest)) ∧
  ∀ x : Bytes, b64Decode (b64Encode x) = .ok x ∧ (b64Encode x).length = 4 * ((x.length + 2) / 3) ∧
    ∀ c ∈ b64Encode x, (b64Val c).isSome = true ∨ c = 0x3D

/-- R202: a text is refused whose length is no multiple of 4, or that holds a character outside the 65-character set, or a
`=` elsewhere than as its last or its last two characters; every other text is accepted. -/
def Obligations.Base64DecodeIsStrict : Prop :=
  ∀ t : Bytes, (∃ d, b64Decode t = .ok d) ↔
    t.length % 4 = 0 ∧ ∃ (v : Bytes) (np : Nat), t = v ++ List.replicate np 0x3D ∧ np ≤ 2 ∧
      ∀ c ∈ v, (b64Val c).isSome = true

/-! ## The Facade -/

/-- R211, R217, R242: with which code AESE ends: InvalidKeyLength (1), UnalignedInput (3: ECB or CBC, scheme None, unaligned
data), InvalidIvLength (2: a mode that needs an IV, and FLAG0 or EXPLICIT without 16 bytes), InvalidInputLength (8: XTS, None,
1 to 15 bytes), in this order, and 0 otherwise; the draws do not matter. -/
def Obligations.AeseErrorOrder : Prop :=
  ∀ (s t : State) (m : Mode) (p : Scheme) (v : Policy) (b64 : Bool), exec (.aeseOf m p v b64) s = .next t →
    t.errCode =
      if s.keyBuf.length ≠ 32 then 1
      else if (m = .ecb ∨ m = .cbc) ∧ p = .none ∧ s.inBuf.length % 16 ≠ 0 then 3
      else if m ≠ .ecb ∧ (v = .flag0 ∨ v = .explicit ∧ s.ivBuf.length ≠ 16) then 2
      else if m = .xts ∧ p = .none ∧ s.inBuf ≠ [] ∧ s.inBuf.length < 16 then 8
      else 0

/-- R211, R213 to R215, R218: all four AESE rows, where the rule's conditions hold, answer the state of the composed
encryption: IVBUF and EMBED as the resolution leaves them, the draws taken in order (IV first), the schedule destroyed, and
in OUTBUF the padded data driven, the IV before it when embedded, encoded when B64. -/
def Obligations.AeseEncrypts : Prop :=
  ∀ (s : State) (m : Mode) (p : Scheme) (v : Policy) (b64 : Bool),
    s.keyBuf.length = 32 →
    (m ≠ .ecb → v = .flag1 ∨ v = .explicit ∧ s.ivBuf.length = 16) →
    (m = .ecb ∨ m = .cbc → p = .none → s.inBuf.length % 16 = 0) →
    (m = .xts → p = .none → s.inBuf = [] ∨ 16 ≤ s.inBuf.length) →
    ∀ (draws : Bool) (s1 : State) (iv fill : Bytes),
      draws = (decide (m ≠ .ecb) && decide (v = .flag1)) →
      s1 = (if draws then s.drawn 16 else s) → iv = (if draws then s.rand 16 else s.ivBuf) →
      fill = s1.rand (if padApplies m p then padDraw p s.inBuf.length else 0) →
      ∃ d, (if padApplies m p then padData p s.inBuf fill else .ok s.inBuf) = .ok d ∧
        let c := driveEncrypt m d (expandKey s.keyBuf) (expandKey (xtsK2 s.params.xtsK2 s.keyBuf)) iv
        let out := if draws then iv ++ c else c
        exec (.aeseOf m p v b64) s = .next { s1.drawn fill.length with
          outBuf := if b64 then b64Encode out else out
          ivBuf := iv, embed := draws, ks := List.replicate 240 0, ks2 := List.replicate 240 0, ksValid := false
          errCode := 0, done := true, scratch := Scratch.zero }

/-- R212, R242: with which code AESD ends, its checks in the order of the rule: InvalidKeyLength (1), InvalidBase64 (6),
MissingIv (5), InvalidIvLength (2), UnalignedInput (3) or InvalidInputLength (8) from the driver, then what unpadding
raises. `d` is the input after base64, `iv` and `c` the IV and ciphertext after extraction. -/
def Obligations.AesdErrorOrder : Prop :=
  ∀ (s t : State) (m : Mode) (p : Scheme) (v : Policy) (b64 : Bool), exec (.aesdOf m p v b64) s = .next t →
    (s.keyBuf.length ≠ 32 → t.errCode = 1) ∧
    (s.keyBuf.length = 32 →
      (b64 = true → (∀ d, b64Decode s.inBuf ≠ .ok d) → t.errCode = 6) ∧
      ∀ d, (if b64 then b64Decode s.inBuf else .ok s.inBuf) = .ok d →
        (m ≠ .ecb → v = .flag1 → d.length < 16 → t.errCode = 5) ∧
        ∀ iv c,
          (if m ≠ .ecb ∧ v = .flag1 then 16 ≤ d.length ∧ iv = d.take 16 ∧ c = d.drop 16
            else c = d ∧ iv = if m ≠ .ecb ∧ v = .flag0 then [] else s.ivBuf) →
          (m ≠ .ecb → iv.length ≠ 16 → t.errCode = 2) ∧
          ((m ≠ .ecb → iv.length = 16) →
            ((m = .ecb ∨ m = .cbc) → c.length % 16 ≠ 0 → t.errCode = 3) ∧
            (m = .xts → c ≠ [] → c.length < 16 → t.errCode = 8) ∧
            (legalLength m c.length → ∀ x,
              x = driveDecrypt m c (expandKey s.keyBuf) (expandKey (xtsK2 s.params.xtsK2 s.keyBuf)) iv →
              t.errCode = if padApplies m p then
                (match unpadData p x with
                  | .ok _ => 0
                  | .error k => errorCode k)
                else 0)))

/-- R212 to R214: all four AESD rows, where no check fails, answer the state of the composed decryption: with `d` the input
after base64, `iv` and `c` the IV and ciphertext after extraction and `x` the driver's result, OUTBUF holds `x` unpadded
where padding applies, IVBUF the IV, EMBED is 0, the schedule is destroyed, and nothing is drawn. -/
def Obligations.AesdDecrypts : Prop :=
  ∀ (s : State) (m : Mode) (p : Scheme) (v : Policy) (b64 : Bool) (d iv c x out : Bytes),
    s.keyBuf.length = 32 →
    (if b64 then b64Decode s.inBuf else .ok s.inBuf) = .ok d →
    (if m ≠ .ecb ∧ v = .flag1 then 16 ≤ d.length ∧ iv = d.take 16 ∧ c = d.drop 16
      else c = d ∧ iv = if m ≠ .ecb ∧ v = .flag0 then [] else s.ivBuf) →
    (m ≠ .ecb → iv.length = 16) → legalLength m c.length →
    x = driveDecrypt m c (expandKey s.keyBuf) (expandKey (xtsK2 s.params.xtsK2 s.keyBuf)) iv →
    (if padApplies m p then unpadData p x else .ok x) = .ok out →
    exec (.aesdOf m p v b64) s = .next { s with
      outBuf := out, ivBuf := iv, embed := false
      ks := List.replicate 240 0, ks2 := List.replicate 240 0, ksValid := false
      errCode := 0, done := true, scratch := Scratch.zero }

/-- R217: decryption undoes encryption. Let AESE succeed, and let AESD with the same operands run with the same key (and
parameters), the result as its input, and for EXPLICIT the same IVBUF; the rest of the state and the draws may be anything.
Then AESD succeeds and returns the plaintext, but that where ZERO padding applies its trailing zero bytes are gone. -/
def Obligations.FacadeRoundTrip : Prop :=
  ∀ (s t s' : State) (m : Mode) (p : Scheme) (v : Policy) (b64 : Bool),
    exec (.aeseOf m p v b64) s = .next t → t.errCode = 0 →
    s'.keyBuf = s.keyBuf → s'.params = s.params → s'.inBuf = t.outBuf → (v = .explicit → s'.ivBuf = s.ivBuf) →
    ∃ t', exec (.aesdOf m p v b64) s' = .next t' ∧ t'.errCode = 0 ∧
      (¬(p = .zero ∧ padApplies m p = true) → t'.outBuf = s.inBuf) ∧
      (p = .zero → padApplies m p = true →
        ∃ z, s.inBuf = t'.outBuf ++ List.replicate z 0x00 ∧ t'.outBuf.getLast? ≠ some 0x00)

/-- The facade equals the pipeline of primitive commands (decision D17, R211): KEXP, IVRE, PAD where padding applies, MENC,
IVPP, and B64E when B64, each fed the result of the one before, give the result that AESE gives; where they all succeed so
does AESE. -/
def Obligations.AeseEqualsThePipeline : Prop :=
  ∀ (s s1 s2 s3 s4 s5 s6 : State) (m : Mode) (p : Scheme) (v : Policy) (b64 : Bool),
    exec .kexp s = .next s1 → s1.errCode = 0 → exec (.ivre m v) s1 = .next s2 →
    (if padApplies m p then exec (.padOf p) s2 else .next (resultState s2 s2.inBuf)) = .next s3 → s3.errCode = 0 →
    exec (.mencOf m) (fed s3) = .next s4 → s4.errCode = 0 → exec .ivpp (fed s4) = .next s5 →
    (if b64 then exec .b64e (fed s5) else .next s5) = .next s6 →
    ∃ t, exec (.aeseOf m p v b64) s = .next t ∧ t.errCode = 0 ∧ t.outBuf = s6.outBuf ∧ t.ivBuf = s6.ivBuf ∧
      t.embed = s6.embed ∧ t.draws = s6.draws ∧ t.entropy = s6.entropy

/-- R214: every AESE and AESD that passed decode ends with KS and KS2 all zero and KS_VALID 0, failed or not, whatever
schedule was held; KEYBUF is not cleared. A word that fails decode leaves the schedule alone. -/
def Obligations.FacadeDestroysTheSchedule : Prop :=
  (∀ (i : Instr) (s t : State), isFacade i = true → exec i s = .next t →
    t.ks = List.replicate 240 0 ∧ t.ks2 = List.replicate 240 0 ∧ t.ksValid = false ∧ t.keyBuf = s.keyBuf) ∧
  ∀ (w : Word) (k : ErrorKind) (s t : State), decode w = .error k → executeWord w s = .next t →
    t.ks = s.ks ∧ t.ks2 = s.ks2 ∧ t.ksValid = s.ksValid ∧ t.keyBuf = s.keyBuf

/-- R216: OUTBUF and ERRCODE after AESE or AESD are a function of KEYBUF, IVBUF, INBUF, the command word and the draws (and
of the parameters): nothing else of the state has any influence. -/
def Obligations.FacadeIsAFunctionOfItsInputs : Prop :=
  ∀ (i : Instr) (s s' t t' : State), isFacade i = true →
    s.keyBuf = s'.keyBuf → s.ivBuf = s'.ivBuf → s.inBuf = s'.inBuf → s.params = s'.params →
    s.entropy = s'.entropy → s.draws = s'.draws → exec i s = .next t → exec i s' = .next t' →
    t.outBuf = t'.outBuf ∧ t.errCode = t'.errCode ∧ t.draws = t'.draws

/-- R216, R270: whether a command fails, with which kind, and how long its result is never depend on what is drawn; and AESD,
like every command but AESE, IVRE with FLAG1 and PAD.ISO10126, gives the same result whatever would be drawn. -/
def Obligations.FailureNeverDependsOnADraw : Prop :=
  ∀ (i : Instr) (s t t' : State) (bytes : Bytes) (n : Nat),
    exec i s = .next t → exec i { s with entropy := bytes, draws := n } = .next t' →
    t.errCode = t'.errCode ∧ t.outBuf.length = t'.outBuf.length ∧
    ((∀ m p v b, i ≠ .aeseOf m p v b) → i ≠ .padIso10126 → t.outBuf = t'.outBuf)

/-! ## Every command -/

/-- Every command runs to its end (R31, R93): it answers a next state with DONE 1, an ERRCODE of at most 10 and scratch zero,
in which KEYBUF and INBUF (R21, R23), CMD and the parameters are what they were. -/
def Obligations.EveryCommandCompletes : Prop :=
  ∀ (i : Instr) (s : State), ∃ t, exec i s = .next t ∧ t.done = true ∧ t.errCode.toNat ≤ 10 ∧
    t.scratch = Scratch.zero ∧ t.keyBuf = s.keyBuf ∧ t.inBuf = s.inBuf ∧ t.cmd = s.cmd ∧ t.params = s.params ∧
    t.pending = s.pending ∧ t.reply = s.reply

/-- R87, R215, R243: a command that fails changes OUTBUF (emptied), ERRCODE, DONE, and the schedule only when it is a facade
command; the draws it took are lost. -/
def Obligations.FailedCommandChangesNothingElse : Prop :=
  ∀ (i : Instr) (s t : State), exec i s = .next t → t.errCode ≠ 0 →
    t = { s with
      outBuf := [], errCode := t.errCode, done := true, scratch := Scratch.zero
      entropy := t.entropy, draws := t.draws
      ks := if isFacade i then List.replicate 240 0 else s.ks
      ks2 := if isFacade i then List.replicate 240 0 else s.ks2
      ksValid := if isFacade i then false else s.ksValid }

/-- The frame of the commands that write OUTBUF, ERRCODE and DONE only (R121, R122, R154, R155, R177, R178, R195, R203, R204):
ENCB, DECB, the PAD rows but PAD.ISO10126, the UNPAD, MENC and MDEC rows, IVPP, B64E, B64D. PAD.ISO10126 takes its draw
besides. -/
def Obligations.ResultOnlyCommandsFrame : Prop :=
  ∀ (i : Instr) (s t : State), exec i s = .next t →
    (writesResultOnly i = true →
      t = { s with outBuf := t.outBuf, errCode := t.errCode, done := true, scratch := Scratch.zero }) ∧
    (i = .padIso10126 →
      t = { s with
        outBuf := t.outBuf, errCode := t.errCode, done := true, scratch := Scratch.zero
        entropy := t.entropy, draws := t.draws })

/-- R20, R32, R38: who writes what. IVBUF and EMBED change only in IVRE, IVRD, AESE and AESD; KS, KS2 and KS_VALID only in
KEXP, KCLR, AESE and AESD; the random source is read only by IVRE with FLAG1, PAD.ISO10126 and AESE. -/
def Obligations.WritersOfEachElement : Prop :=
  ∀ (i : Instr) (s t : State), exec i s = .next t →
    (t.ivBuf ≠ s.ivBuf ∨ t.embed ≠ s.embed → isFacade i = true ∨ ∃ m v, i = .ivre m v ∨ i = .ivrd m v) ∧
    (t.ks ≠ s.ks ∨ t.ks2 ≠ s.ks2 ∨ t.ksValid ≠ s.ksValid → isFacade i = true ∨ i = .kexp ∨ i = .kclr) ∧
    (t.draws ≠ s.draws ∨ t.entropy ≠ s.entropy →
      (∃ m, i = .ivre m .flag1) ∨ i = .padIso10126 ∨ ∃ m p v b, i = .aeseOf m p v b)

/-! ## The cipher -/

/-- R116, R117, R124 (a), (b): EncryptBlock is the initial key addition, thirteen rounds of four stages and a last one without
MixColumns; DecryptBlock is the inverse stages in the order of R117; each undoes the other, for every 16-byte block and every
240-byte schedule; and the published AES-256 triple. -/
def Obligations.BlockCipherInverse : Prop :=
  (∀ (ks b : Bytes) (s : Nat → Bytes), s 0 = addRoundKey b ks 0 →
    (∀ r, 1 ≤ r → r ≤ 13 → s r = addRoundKey (mixColumns (shiftRows (subBytes (s (r - 1))))) ks r) →
    encryptBlock ks b = addRoundKey (shiftRows (subBytes (s 13))) ks 14) ∧
  (∀ (ks b : Bytes) (s : Nat → Bytes), s 14 = addRoundKey b ks 14 →
    (∀ r, 1 ≤ r → r ≤ 13 → s r = invMixColumns (addRoundKey (invSubBytes (invShiftRows (s (r + 1)))) ks r)) →
    decryptBlock ks b = addRoundKey (invSubBytes (invShiftRows (s 1))) ks 0) ∧
  (∀ ks b : Bytes, ks.length = 240 → b.length = 16 →
    decryptBlock ks (encryptBlock ks b) = b ∧ encryptBlock ks (decryptBlock ks b) = b) ∧
  encryptBlock (expandKey ((List.range 32).map (BitVec.ofNat 8)))
      ((List.range 16).map fun k => BitVec.ofNat 8 (0x11 * k)) =
    [0x8e, 0xa2, 0xb7, 0xca, 0x51, 0x67, 0x45, 0xbf, 0xea, 0xfc, 0x49, 0x90, 0x4b, 0x49, 0x60, 0x89]

/-- R104, R105: the table of SBox is its formula on all 256 bytes; SBox has no fixed point; InvSBox is the inverse
permutation. -/
def Obligations.SboxIsTheFormula : Prop :=
  ∀ a : Byte, sbox a = sboxFormula a ∧ sbox a ≠ a ∧ invSbox (sbox a) = a ∧ sbox (invSbox a) = a

/-- R102, R103: `gmul` is commutative, `gmul(a, 1) = a`, `gmul(a, 0) = 0`, `gmul(a, 2) = xtime(a)`, `gmul(a, 3) = xtime(a) ^
a`; `ginv(0) = 0`, and `ginv(a)` is the one byte whose product with a nonzero `a` is 1. -/
def Obligations.FieldProductAndInverse : Prop :=
  (∀ a b : Byte, gmul a b = gmul b a) ∧
  (∀ a : Byte, gmul a 1 = a ∧ gmul a 0 = 0 ∧ gmul a 2 = xtime a ∧ gmul a 3 = xtime a ^^^ a) ∧
  ginv 0 = 0 ∧ ∀ a : Byte, a ≠ 0 → gmul a (ginv a) = 1 ∧ ∀ b, gmul a b = 1 → b = ginv a

/-- R106 to R112: what each of the seven round stages does to each byte of a 16-byte state, and that each is undone: SubBytes by
InvSubBytes, ShiftRows by InvShiftRows, MixColumns by InvMixColumns, and AddRoundKey by itself. -/
def Obligations.RoundStagesInvert : Prop :=
  ∀ s : Bytes, s.length = 16 →
    (∀ k, k < 16 → byteAt (subBytes s) k = sbox (byteAt s k) ∧ byteAt (invSubBytes s) k = invSbox (byteAt s k)) ∧
    (∀ r c, r < 4 → c < 4 →
      byteAt (shiftRows s) (r + 4 * c) = byteAt s (r + 4 * ((c + r) % 4)) ∧
      byteAt (invShiftRows s) (r + 4 * c) = byteAt s (r + 4 * ((c + 4 - r) % 4))) ∧
    (∀ c a0 a1 a2 a3, c < 4 → memRead s (4 * c) 4 = [a0, a1, a2, a3] →
      memRead (mixColumns s) (4 * c) 4 =
        [gmul a0 2 ^^^ gmul a1 3 ^^^ a2 ^^^ a3, a0 ^^^ gmul a1 2 ^^^ gmul a2 3 ^^^ a3,
         a0 ^^^ a1 ^^^ gmul a2 2 ^^^ gmul a3 3, gmul a0 3 ^^^ a1 ^^^ a2 ^^^ gmul a3 2] ∧
      memRead (invMixColumns s) (4 * c) 4 =
        [gmul a0 0x0e ^^^ gmul a1 0x0b ^^^ gmul a2 0x0d ^^^ gmul a3 0x09,
         gmul a0 0x09 ^^^ gmul a1 0x0e ^^^ gmul a2 0x0b ^^^ gmul a3 0x0d,
         gmul a0 0x0d ^^^ gmul a1 0x09 ^^^ gmul a2 0x0e ^^^ gmul a3 0x0b,
         gmul a0 0x0b ^^^ gmul a1 0x0d ^^^ gmul a2 0x09 ^^^ gmul a3 0x0e]) ∧
    invSubBytes (subBytes s) = s ∧ subBytes (invSubBytes s) = s ∧
    invShiftRows (shiftRows s) = s ∧ shiftRows (invShiftRows s) = s ∧
    invMixColumns (mixColumns s) = s ∧ mixColumns (invMixColumns s) = s ∧
    ∀ (ks : Bytes) (r : Nat), ks.length = 240 → r ≤ 14 →
      (∀ k, k < 16 → byteAt (addRoundKey s ks r) k = byteAt s k ^^^ byteAt ks (16 * r + k)) ∧
      addRoundKey (addRoundKey s ks r) ks r = s

/-- R115, R37: the key schedule, words `w[i] = KS[4i .. 4i+3]`: 240 bytes; the key is the first 32 of them; and for `i` = 8 to
59, `w[i]` is `w[i-8]` XOR `w[i-1]`, the latter rotated, substituted and mixed with `Rcon` when `i mod 8 = 0`, substituted
when `i mod 8 = 4`. -/
def Obligations.KeyScheduleRecurrence : Prop :=
  ∀ (key : Bytes) (w : Nat → Bytes), key.length = 32 → (∀ i, w i = memRead (expandKey key) (4 * i) 4) →
    (expandKey key).length = 240 ∧ (expandKey key).take 32 = key ∧
    ∀ i, 8 ≤ i → i < 60 → w i = xorBytes (w (i - 8))
      (if i % 8 = 0 then xorBytes (subWord (rotWord (w (i - 1)))) [rcon (i / 8), 0, 0, 0]
        else if i % 8 = 4 then subWord (w (i - 1)) else w (i - 1))

/-! ## The invariant -/

/-- The state after reset meets the invariant (R42). -/
def Obligations.ResetMeetsTheInvariant : Prop := Inv State.reset

/-- Every step keeps the invariant: buffers within their capacities (R62), the schedule's flag and contents (R37, R38), EMBED
and the IV's length (R32), ERRCODE's range and no output on failure (R215, R231), scratch zero (R40), and before the first
command everything a command writes as reset left it (R31, R42). -/
def Obligations.StepKeepsTheInvariant : Prop := ∀ s t : State, Inv s → step s = .next t → Inv t
end

