-- ==== Sys2Proof/Laws/Blocks.lean ====
section
/-! SUPPORT. Byte sequences, blocks and lengths: what the shared operations on data keep, and when the mode driver's checks
pass. -/

namespace Sys2Proof.Machine

/-! ## Byte sequences -/

@[simp] theorem xorBytes_length (a b : Bytes) : (xorBytes a b).length = min a.length b.length := by simp [xorBytes]

@[simp] theorem xorBytes_nil (b : Bytes) : xorBytes [] b = [] := rfl

@[simp] theorem xorBytes_cons (x y : Byte) (a b : Bytes) : xorBytes (x :: a) (y :: b) = (x ^^^ y) :: xorBytes a b := rfl

/-- XOR with the same bytes twice gives the data back (R8). -/
theorem xorBytes_cancel (a b : Bytes) (h : a.length ≤ b.length) : xorBytes (xorBytes a b) b = a := by
  induction a generalizing b with
  | nil => rfl
  | cons x a ih =>
    cases b with
    | nil => simp at h
    | cons y b => simp [ih b (by simpa using h)]

@[simp] theorem memRead_length (buf : Bytes) (i n : Nat) : (memRead buf i n).length = min n (buf.length - i) := by
  simp [memRead]

@[simp] theorem zeros_length (n : Nat) : (zeros n).length = n := by simp [zeros, rep]

@[simp] theorem rep_length (v : Byte) (n : Nat) : (rep v n).length = n := by simp [rep]

/-! ## The split into blocks -/

theorem blockAt_length (data : Bytes) (j : Nat) : (blockAt data j).length = min 16 (data.length - 16 * j) := by
  simp [blockAt, Config.blockBytes]

/-- The next block and the rest of the data. -/
theorem blocks_cons (x rest : Bytes) (hx : x.length = 16) : blocks (x ++ rest) = x :: blocks rest := by
  have hc : blockCount (x ++ rest).length = blockCount rest.length + 1 := by
    simp [blockCount, hx, Config.blockBytes]; omega
  unfold blocks
  rw [hc, List.range_succ_eq_map, List.map_cons, List.map_map]
  congr 1
  · simp [blockAt, memRead, Config.blockBytes, ← hx]
  · apply List.map_congr_left
    intro j _
    have h16 : 16 * (j + 1) = x.length + 16 * j := by omega
    simp [blockAt, memRead, Config.blockBytes, h16, ← List.drop_drop]

/-- Data of 1 to 16 bytes is one block. -/
theorem blocks_single (x : Bytes) (h0 : x ≠ []) (h : x.length ≤ 16) : blocks x = [x] := by
  have hp : 0 < x.length := List.length_pos_iff.mpr h0
  have hc : blockCount x.length = 1 := by simp [blockCount, Config.blockBytes]; omega
  simp [blocks, hc, blockAt, memRead, Config.blockBytes, List.take_of_length_le h]

@[simp] theorem blocks_nil : blocks [] = [] := rfl

/-- The blocks in order are the data (R160). -/
theorem blocks_flatten (data : Bytes) : (blocks data).flatten = data := by
  induction hn : data.length using Nat.strongRecOn generalizing data with
  | ind n ih =>
    by_cases h0 : data = []
    · simp [h0]
    · by_cases h : data.length ≤ 16
      · simp [blocks_single data h0 h]
      · have hx : (data.take 16).length = 16 := by simp; omega
        have hd := blocks_cons (data.take 16) (data.drop 16) hx
        rw [List.take_append_drop] at hd
        rw [hd, List.flatten_cons, ih (data.drop 16).length (by simp; omega) _ rfl, List.take_append_drop]

/-! ## Lengths in the cipher -/

@[simp] theorem subBytes_length (s : Bytes) : (subBytes s).length = s.length := by simp [subBytes]

@[simp] theorem invSubBytes_length (s : Bytes) : (invSubBytes s).length = s.length := by simp [invSubBytes]

@[simp] theorem shiftRows_length (s : Bytes) : (shiftRows s).length = 16 := by simp [shiftRows, shiftRowsIndex]

@[simp] theorem invShiftRows_length (s : Bytes) : (invShiftRows s).length = 16 := by
  simp [invShiftRows, invShiftRowsIndex]

/-- A round key of a whole schedule is a block (R37). -/
theorem roundKey_length (ks : Bytes) (r : Nat) (hk : ks.length = 240) (hr : r ≤ 14) : (roundKey ks r).length = 16 := by
  simp [roundKey, hk]; omega

/-- AddRoundKey is its own inverse (R112). -/
theorem addRoundKey_cancel (s ks : Bytes) (r : Nat) (hs : s.length = 16) (hk : ks.length = 240) (hr : r ≤ 14) :
    addRoundKey (addRoundKey s ks r) ks r = s :=
  xorBytes_cancel s _ (by rw [hs, roundKey_length ks r hk hr])

/-- EncryptBlock gives a block, whatever it is given (R116). -/
theorem encryptBlock_length (ks b : Bytes) (hk : ks.length = 240) : (encryptBlock ks b).length = 16 := by
  unfold encryptBlock; simp [addRoundKey, roundKey_length ks 14 hk (by omega)]

/-- DecryptBlock gives a block, whatever it is given (R117). -/
theorem decryptBlock_length (ks b : Bytes) (hk : ks.length = 240) : (decryptBlock ks b).length = 16 := by
  unfold decryptBlock; simp [addRoundKey, roundKey_length ks 0 hk (by omega)]

/-! ## The mode driver's checks -/

theorem checkIv_of_legal (m : Mode) (iv : Bytes) (h : legalIv m iv) : checkIv m iv = .ok () := by
  cases m <;> simp_all [checkIv, needsIv, legalIv]

theorem checkIv_of_illegal (m : Mode) (iv : Bytes) (h : ¬legalIv m iv) : checkIv m iv = .error .invalidIvLength := by
  cases m <;> simp_all [checkIv, needsIv, legalIv]

theorem checkLength_of_legal (m : Mode) (n : Nat) (h : legalLength m n) : checkLength m n = .ok () := by
  cases m <;> simp_all [checkLength, aligned, legalLength]

theorem checkLength_of_illegal (m : Mode) (n : Nat) (h : ¬legalLength m n) :
    checkLength m n = .error (if m = .xts then .invalidInputLength else .unalignedInput) := by
  cases m <;> simp_all [checkLength, aligned, legalLength, Config.blockBytes]

/-- Everything ModeEncrypt can do (R161 to R163). -/
theorem modeEncrypt_cases (m : Mode) (data ks ks2 iv : Bytes) :
    (¬legalIv m iv ∧ modeEncrypt m data ks ks2 iv = .error .invalidIvLength) ∨
    (legalIv m iv ∧ ¬legalLength m data.length ∧
      modeEncrypt m data ks ks2 iv = .error (if m = .xts then .invalidInputLength else .unalignedInput)) ∨
    (legalIv m iv ∧ legalLength m data.length ∧
      modeEncrypt m data ks ks2 iv = .ok (driveEncrypt m data ks ks2 iv)) := by
  unfold modeEncrypt
  by_cases hi : legalIv m iv
  · by_cases hl : legalLength m data.length
    · exact .inr (.inr ⟨hi, hl, by rw [checkIv_of_legal m iv hi, checkLength_of_legal m _ hl]; rfl⟩)
    · exact .inr (.inl ⟨hi, hl, by rw [checkIv_of_legal m iv hi, checkLength_of_illegal m _ hl]; rfl⟩)
  · exact .inl ⟨hi, by rw [checkIv_of_illegal m iv hi]; rfl⟩

/-- Everything ModeDecrypt can do (R161 to R163). -/
theorem modeDecrypt_cases (m : Mode) (data ks ks2 iv : Bytes) :
    (¬legalIv m iv ∧ modeDecrypt m data ks ks2 iv = .error .invalidIvLength) ∨
    (legalIv m iv ∧ ¬legalLength m data.length ∧
      modeDecrypt m data ks ks2 iv = .error (if m = .xts then .invalidInputLength else .unalignedInput)) ∨
    (legalIv m iv ∧ legalLength m data.length ∧
      modeDecrypt m data ks ks2 iv = .ok (driveDecrypt m data ks ks2 iv)) := by
  unfold modeDecrypt
  by_cases hi : legalIv m iv
  · by_cases hl : legalLength m data.length
    · exact .inr (.inr ⟨hi, hl, by rw [checkIv_of_legal m iv hi, checkLength_of_legal m _ hl]; rfl⟩)
    · exact .inr (.inl ⟨hi, hl, by rw [checkIv_of_legal m iv hi, checkLength_of_illegal m _ hl]; rfl⟩)
  · exact .inl ⟨hi, by rw [checkIv_of_illegal m iv hi]; rfl⟩

/-! ## The parameter XTS_K2 -/

/-- The tweak key has as many bytes as the key (R7). -/
theorem xtsK2_length (x : Config.XtsK2) (key : Bytes) (h : key.length = 32) : (xtsK2 x key).length = 32 := by
  induction x with
  | nil => exact h
  | cons e rest ih =>
    obtain ⟨k, t⟩ := e
    simp only [xtsK2]
    split
    · next hc => exact hc.2
    · exact ih

/-- The parameter that lists a function on some keys is that function on them. -/
theorem xtsK2_map (f : Bytes → Bytes) (keys : List Bytes) (key : Bytes) (hf : ∀ k ∈ keys, (f k).length = 32)
    (h : key ∈ keys) : xtsK2 (keys.map fun k => (k, f k)) key = f key := by
  induction keys with
  | nil => simp at h
  | cons k rest ih =>
    by_cases hk : k = key
    · subst hk; simp [xtsK2, hf k (by simp)]
    · have hr : key ∈ rest := by
        rcases List.mem_cons.mp h with h | h
        · exact absurd h.symm hk
        · exact h
      simpa [xtsK2, hk] using ih (fun k hk => hf k (List.mem_cons_of_mem _ hk)) hr

/-- Every function from 32 bytes to 32 bytes is some value of the parameter: `XTS_K2` is any function (R7). -/
theorem xtsK2_any (f : Bytes → Bytes) (hf : ∀ k, k.length = 32 → (f k).length = 32) :
    ∃ x : Config.XtsK2, ∀ key, key.length = 32 → xtsK2 x key = f key := by
  have hfin : {k : Bytes | k.length = 32}.Finite := List.finite_length_eq Byte 32
  refine ⟨hfin.toFinset.toList.map fun k => (k, f k), fun key hk => xtsK2_map f _ key ?_ (by simpa using hk)⟩
  intro k hk
  exact hf k (by simpa using hk)

/-! ## Padding -/

/-- The pad count is 1 to 16 (R140). -/
theorem padCount_range (n : Nat) : 1 ≤ padCount n ∧ padCount n ≤ 16 := by
  simp [padCount, Config.blockBytes]; omega

/-- Data and its pad count make whole blocks (R140). -/
theorem padCount_aligns (n : Nat) : (n + padCount n) % 16 = 0 := by simp [padCount, Config.blockBytes]; omega

/-- A count of 1 to 16 survives as a byte. -/
theorem countByte_toNat (n : Nat) (h : n ≤ 16) : (countByte n).toNat = n := by
  simp [countByte]; omega

/-- Only scheme None can make Pad fail (R154). -/
theorem padData_ok (p : Scheme) (d fill : Bytes) (h : p ≠ .none) : ∃ y, padData p d fill = .ok y := by
  cases p <;> first | exact absurd rfl h | exact ⟨_, rfl⟩

end Sys2Proof.Machine
end

