-- ==== Sys2Proof/Laws/State.lean ====
section
/-! SUPPORT. The fields of a state after each update: one lemma per field per update, true by unfolding, so that no later proof
unfolds a record update. -/

namespace Sys2Proof.Machine

/-! A draw (R16). -/

@[simp] theorem State.drawn_keyBuf (s : State) (n : Nat) : (s.drawn n).keyBuf = s.keyBuf := rfl
@[simp] theorem State.drawn_ivBuf (s : State) (n : Nat) : (s.drawn n).ivBuf = s.ivBuf := rfl
@[simp] theorem State.drawn_inBuf (s : State) (n : Nat) : (s.drawn n).inBuf = s.inBuf := rfl
@[simp] theorem State.drawn_outBuf (s : State) (n : Nat) : (s.drawn n).outBuf = s.outBuf := rfl
@[simp] theorem State.drawn_cmd (s : State) (n : Nat) : (s.drawn n).cmd = s.cmd := rfl
@[simp] theorem State.drawn_done (s : State) (n : Nat) : (s.drawn n).done = s.done := rfl
@[simp] theorem State.drawn_errCode (s : State) (n : Nat) : (s.drawn n).errCode = s.errCode := rfl
@[simp] theorem State.drawn_embed (s : State) (n : Nat) : (s.drawn n).embed = s.embed := rfl
@[simp] theorem State.drawn_ks (s : State) (n : Nat) : (s.drawn n).ks = s.ks := rfl
@[simp] theorem State.drawn_ks2 (s : State) (n : Nat) : (s.drawn n).ks2 = s.ks2 := rfl
@[simp] theorem State.drawn_ksValid (s : State) (n : Nat) : (s.drawn n).ksValid = s.ksValid := rfl
@[simp] theorem State.drawn_scratch (s : State) (n : Nat) : (s.drawn n).scratch = s.scratch := rfl
@[simp] theorem State.drawn_params (s : State) (n : Nat) : (s.drawn n).params = s.params := rfl
@[simp] theorem State.drawn_pending (s : State) (n : Nat) : (s.drawn n).pending = s.pending := rfl
@[simp] theorem State.drawn_reply (s : State) (n : Nat) : (s.drawn n).reply = s.reply := rfl
@[simp] theorem State.drawn_entropy (s : State) (n : Nat) : (s.drawn n).entropy = s.entropy.drop n := rfl
@[simp] theorem State.drawn_draws (s : State) (n : Nat) : (s.drawn n).draws = s.draws + n := rfl

/-! The schedule destroyed (R39). -/

@[simp] theorem State.destroySchedule_keyBuf (s : State) : (s.destroySchedule).keyBuf = s.keyBuf := rfl
@[simp] theorem State.destroySchedule_ivBuf (s : State) : (s.destroySchedule).ivBuf = s.ivBuf := rfl
@[simp] theorem State.destroySchedule_inBuf (s : State) : (s.destroySchedule).inBuf = s.inBuf := rfl
@[simp] theorem State.destroySchedule_outBuf (s : State) : (s.destroySchedule).outBuf = s.outBuf := rfl
@[simp] theorem State.destroySchedule_cmd (s : State) : (s.destroySchedule).cmd = s.cmd := rfl
@[simp] theorem State.destroySchedule_done (s : State) : (s.destroySchedule).done = s.done := rfl
@[simp] theorem State.destroySchedule_errCode (s : State) : (s.destroySchedule).errCode = s.errCode := rfl
@[simp] theorem State.destroySchedule_embed (s : State) : (s.destroySchedule).embed = s.embed := rfl
@[simp] theorem State.destroySchedule_ks (s : State) : (s.destroySchedule).ks = zeros Config.scheduleBytes := rfl
@[simp] theorem State.destroySchedule_ks2 (s : State) : (s.destroySchedule).ks2 = zeros Config.scheduleBytes := rfl
@[simp] theorem State.destroySchedule_ksValid (s : State) : (s.destroySchedule).ksValid = false := rfl
@[simp] theorem State.destroySchedule_scratch (s : State) : (s.destroySchedule).scratch = s.scratch := rfl
@[simp] theorem State.destroySchedule_params (s : State) : (s.destroySchedule).params = s.params := rfl
@[simp] theorem State.destroySchedule_pending (s : State) : (s.destroySchedule).pending = s.pending := rfl
@[simp] theorem State.destroySchedule_reply (s : State) : (s.destroySchedule).reply = s.reply := rfl
@[simp] theorem State.destroySchedule_entropy (s : State) : (s.destroySchedule).entropy = s.entropy := rfl
@[simp] theorem State.destroySchedule_draws (s : State) : (s.destroySchedule).draws = s.draws := rfl

/-! The schedule expanded (R120). -/

@[simp] theorem State.expandKeys_keyBuf (s : State) : (s.expandKeys).keyBuf = s.keyBuf := rfl
@[simp] theorem State.expandKeys_ivBuf (s : State) : (s.expandKeys).ivBuf = s.ivBuf := rfl
@[simp] theorem State.expandKeys_inBuf (s : State) : (s.expandKeys).inBuf = s.inBuf := rfl
@[simp] theorem State.expandKeys_outBuf (s : State) : (s.expandKeys).outBuf = s.outBuf := rfl
@[simp] theorem State.expandKeys_cmd (s : State) : (s.expandKeys).cmd = s.cmd := rfl
@[simp] theorem State.expandKeys_done (s : State) : (s.expandKeys).done = s.done := rfl
@[simp] theorem State.expandKeys_errCode (s : State) : (s.expandKeys).errCode = s.errCode := rfl
@[simp] theorem State.expandKeys_embed (s : State) : (s.expandKeys).embed = s.embed := rfl
@[simp] theorem State.expandKeys_ks (s : State) : (s.expandKeys).ks = expandKey s.keyBuf := rfl
@[simp] theorem State.expandKeys_ks2 (s : State) : (s.expandKeys).ks2 = expandKey (xtsK2 s.params.xtsK2 s.keyBuf) := rfl
@[simp] theorem State.expandKeys_ksValid (s : State) : (s.expandKeys).ksValid = true := rfl
@[simp] theorem State.expandKeys_scratch (s : State) : (s.expandKeys).scratch = s.scratch := rfl
@[simp] theorem State.expandKeys_params (s : State) : (s.expandKeys).params = s.params := rfl
@[simp] theorem State.expandKeys_pending (s : State) : (s.expandKeys).pending = s.pending := rfl
@[simp] theorem State.expandKeys_reply (s : State) : (s.expandKeys).reply = s.reply := rfl
@[simp] theorem State.expandKeys_entropy (s : State) : (s.expandKeys).entropy = s.entropy := rfl
@[simp] theorem State.expandKeys_draws (s : State) : (s.expandKeys).draws = s.draws := rfl

/-! A command committed (R87 step 5). -/

@[simp] theorem State.commit_keyBuf (s : State) (res : Bytes) : (s.commit res).keyBuf = s.keyBuf := rfl
@[simp] theorem State.commit_ivBuf (s : State) (res : Bytes) : (s.commit res).ivBuf = s.ivBuf := rfl
@[simp] theorem State.commit_inBuf (s : State) (res : Bytes) : (s.commit res).inBuf = s.inBuf := rfl
@[simp] theorem State.commit_outBuf (s : State) (res : Bytes) : (s.commit res).outBuf = res := rfl
@[simp] theorem State.commit_cmd (s : State) (res : Bytes) : (s.commit res).cmd = s.cmd := rfl
@[simp] theorem State.commit_done (s : State) (res : Bytes) : (s.commit res).done = true := rfl
@[simp] theorem State.commit_errCode (s : State) (res : Bytes) : (s.commit res).errCode = 0 := rfl
@[simp] theorem State.commit_embed (s : State) (res : Bytes) : (s.commit res).embed = s.embed := rfl
@[simp] theorem State.commit_ks (s : State) (res : Bytes) : (s.commit res).ks = s.ks := rfl
@[simp] theorem State.commit_ks2 (s : State) (res : Bytes) : (s.commit res).ks2 = s.ks2 := rfl
@[simp] theorem State.commit_ksValid (s : State) (res : Bytes) : (s.commit res).ksValid = s.ksValid := rfl
@[simp] theorem State.commit_scratch (s : State) (res : Bytes) : (s.commit res).scratch = Scratch.zero := rfl
@[simp] theorem State.commit_params (s : State) (res : Bytes) : (s.commit res).params = s.params := rfl
@[simp] theorem State.commit_pending (s : State) (res : Bytes) : (s.commit res).pending = s.pending := rfl
@[simp] theorem State.commit_reply (s : State) (res : Bytes) : (s.commit res).reply = s.reply := rfl
@[simp] theorem State.commit_entropy (s : State) (res : Bytes) : (s.commit res).entropy = s.entropy := rfl
@[simp] theorem State.commit_draws (s : State) (res : Bytes) : (s.commit res).draws = s.draws := rfl

/-! An error taken (R243). -/

@[simp] theorem State.takeError_keyBuf (s : State) (f : Bool) (k : ErrorKind) (t : State) : (s.takeError f k t).keyBuf = s.keyBuf := by cases f <;> rfl
@[simp] theorem State.takeError_ivBuf (s : State) (f : Bool) (k : ErrorKind) (t : State) : (s.takeError f k t).ivBuf = s.ivBuf := by cases f <;> rfl
@[simp] theorem State.takeError_inBuf (s : State) (f : Bool) (k : ErrorKind) (t : State) : (s.takeError f k t).inBuf = s.inBuf := by cases f <;> rfl
@[simp] theorem State.takeError_outBuf (s : State) (f : Bool) (k : ErrorKind) (t : State) : (s.takeError f k t).outBuf = [] := by cases f <;> rfl
@[simp] theorem State.takeError_cmd (s : State) (f : Bool) (k : ErrorKind) (t : State) : (s.takeError f k t).cmd = s.cmd := by cases f <;> rfl
@[simp] theorem State.takeError_done (s : State) (f : Bool) (k : ErrorKind) (t : State) : (s.takeError f k t).done = true := by cases f <;> rfl
@[simp] theorem State.takeError_errCode (s : State) (f : Bool) (k : ErrorKind) (t : State) : (s.takeError f k t).errCode = errorCode k := by cases f <;> rfl
@[simp] theorem State.takeError_embed (s : State) (f : Bool) (k : ErrorKind) (t : State) : (s.takeError f k t).embed = s.embed := by cases f <;> rfl
@[simp] theorem State.takeError_ks (s : State) (f : Bool) (k : ErrorKind) (t : State) : (s.takeError f k t).ks = if f then zeros Config.scheduleBytes else s.ks := by cases f <;> rfl
@[simp] theorem State.takeError_ks2 (s : State) (f : Bool) (k : ErrorKind) (t : State) : (s.takeError f k t).ks2 = if f then zeros Config.scheduleBytes else s.ks2 := by cases f <;> rfl
@[simp] theorem State.takeError_ksValid (s : State) (f : Bool) (k : ErrorKind) (t : State) : (s.takeError f k t).ksValid = if f then false else s.ksValid := by cases f <;> rfl
@[simp] theorem State.takeError_scratch (s : State) (f : Bool) (k : ErrorKind) (t : State) : (s.takeError f k t).scratch = Scratch.zero := by cases f <;> rfl
@[simp] theorem State.takeError_params (s : State) (f : Bool) (k : ErrorKind) (t : State) : (s.takeError f k t).params = s.params := by cases f <;> rfl
@[simp] theorem State.takeError_pending (s : State) (f : Bool) (k : ErrorKind) (t : State) : (s.takeError f k t).pending = s.pending := by cases f <;> rfl
@[simp] theorem State.takeError_reply (s : State) (f : Bool) (k : ErrorKind) (t : State) : (s.takeError f k t).reply = s.reply := by cases f <;> rfl
@[simp] theorem State.takeError_entropy (s : State) (f : Bool) (k : ErrorKind) (t : State) : (s.takeError f k t).entropy = t.entropy := by cases f <;> rfl
@[simp] theorem State.takeError_draws (s : State) (f : Bool) (k : ErrorKind) (t : State) : (s.takeError f k t).draws = t.draws := by cases f <;> rfl

/-! The reply given. -/

@[simp] theorem State.answer_keyBuf (s : State) (r : HostReply) : (s.answer r).keyBuf = s.keyBuf := rfl
@[simp] theorem State.answer_ivBuf (s : State) (r : HostReply) : (s.answer r).ivBuf = s.ivBuf := rfl
@[simp] theorem State.answer_inBuf (s : State) (r : HostReply) : (s.answer r).inBuf = s.inBuf := rfl
@[simp] theorem State.answer_outBuf (s : State) (r : HostReply) : (s.answer r).outBuf = s.outBuf := rfl
@[simp] theorem State.answer_cmd (s : State) (r : HostReply) : (s.answer r).cmd = s.cmd := rfl
@[simp] theorem State.answer_done (s : State) (r : HostReply) : (s.answer r).done = s.done := rfl
@[simp] theorem State.answer_errCode (s : State) (r : HostReply) : (s.answer r).errCode = s.errCode := rfl
@[simp] theorem State.answer_embed (s : State) (r : HostReply) : (s.answer r).embed = s.embed := rfl
@[simp] theorem State.answer_ks (s : State) (r : HostReply) : (s.answer r).ks = s.ks := rfl
@[simp] theorem State.answer_ks2 (s : State) (r : HostReply) : (s.answer r).ks2 = s.ks2 := rfl
@[simp] theorem State.answer_ksValid (s : State) (r : HostReply) : (s.answer r).ksValid = s.ksValid := rfl
@[simp] theorem State.answer_scratch (s : State) (r : HostReply) : (s.answer r).scratch = s.scratch := rfl
@[simp] theorem State.answer_params (s : State) (r : HostReply) : (s.answer r).params = s.params := rfl
@[simp] theorem State.answer_pending (s : State) (r : HostReply) : (s.answer r).pending = s.pending := rfl
@[simp] theorem State.answer_reply (s : State) (r : HostReply) : (s.answer r).reply = r := rfl
@[simp] theorem State.answer_entropy (s : State) (r : HostReply) : (s.answer r).entropy = s.entropy := rfl
@[simp] theorem State.answer_draws (s : State) (r : HostReply) : (s.answer r).draws = s.draws := rfl

/-! A command put before the pending transactions. -/

@[simp] theorem State.withCommand_keyBuf (s : State) (w : Word) : (s.withCommand w).keyBuf = s.keyBuf := rfl
@[simp] theorem State.withCommand_ivBuf (s : State) (w : Word) : (s.withCommand w).ivBuf = s.ivBuf := rfl
@[simp] theorem State.withCommand_inBuf (s : State) (w : Word) : (s.withCommand w).inBuf = s.inBuf := rfl
@[simp] theorem State.withCommand_outBuf (s : State) (w : Word) : (s.withCommand w).outBuf = s.outBuf := rfl
@[simp] theorem State.withCommand_cmd (s : State) (w : Word) : (s.withCommand w).cmd = s.cmd := rfl
@[simp] theorem State.withCommand_done (s : State) (w : Word) : (s.withCommand w).done = s.done := rfl
@[simp] theorem State.withCommand_errCode (s : State) (w : Word) : (s.withCommand w).errCode = s.errCode := rfl
@[simp] theorem State.withCommand_embed (s : State) (w : Word) : (s.withCommand w).embed = s.embed := rfl
@[simp] theorem State.withCommand_ks (s : State) (w : Word) : (s.withCommand w).ks = s.ks := rfl
@[simp] theorem State.withCommand_ks2 (s : State) (w : Word) : (s.withCommand w).ks2 = s.ks2 := rfl
@[simp] theorem State.withCommand_ksValid (s : State) (w : Word) : (s.withCommand w).ksValid = s.ksValid := rfl
@[simp] theorem State.withCommand_scratch (s : State) (w : Word) : (s.withCommand w).scratch = s.scratch := rfl
@[simp] theorem State.withCommand_params (s : State) (w : Word) : (s.withCommand w).params = s.params := rfl
@[simp] theorem State.withCommand_pending (s : State) (w : Word) : (s.withCommand w).pending = .cmd w :: s.pending := rfl
@[simp] theorem State.withCommand_reply (s : State) (w : Word) : (s.withCommand w).reply = s.reply := rfl
@[simp] theorem State.withCommand_entropy (s : State) (w : Word) : (s.withCommand w).entropy = s.entropy := rfl
@[simp] theorem State.withCommand_draws (s : State) (w : Word) : (s.withCommand w).draws = s.draws := rfl

/-! Reset (R42). -/

@[simp] theorem hostReset_keyBuf (s : State) : (hostReset s).keyBuf = [] := rfl
@[simp] theorem hostReset_ivBuf (s : State) : (hostReset s).ivBuf = [] := rfl
@[simp] theorem hostReset_inBuf (s : State) : (hostReset s).inBuf = [] := rfl
@[simp] theorem hostReset_outBuf (s : State) : (hostReset s).outBuf = [] := rfl
@[simp] theorem hostReset_cmd (s : State) : (hostReset s).cmd = 0 := rfl
@[simp] theorem hostReset_done (s : State) : (hostReset s).done = false := rfl
@[simp] theorem hostReset_errCode (s : State) : (hostReset s).errCode = 0 := rfl
@[simp] theorem hostReset_embed (s : State) : (hostReset s).embed = false := rfl
@[simp] theorem hostReset_ks (s : State) : (hostReset s).ks = zeros Config.scheduleBytes := rfl
@[simp] theorem hostReset_ks2 (s : State) : (hostReset s).ks2 = zeros Config.scheduleBytes := rfl
@[simp] theorem hostReset_ksValid (s : State) : (hostReset s).ksValid = false := rfl
@[simp] theorem hostReset_scratch (s : State) : (hostReset s).scratch = Scratch.zero := rfl
@[simp] theorem hostReset_params (s : State) : (hostReset s).params = s.params := rfl
@[simp] theorem hostReset_pending (s : State) : (hostReset s).pending = s.pending := rfl
@[simp] theorem hostReset_reply (s : State) : (hostReset s).reply = .done := rfl
@[simp] theorem hostReset_entropy (s : State) : (hostReset s).entropy = s.entropy := rfl
@[simp] theorem hostReset_draws (s : State) : (hostReset s).draws = s.draws := rfl

/-! A buffer loaded (R62). -/

@[simp] theorem State.setBuffer_keyBuf (s : State) (b : Buffer) (bytes : Bytes) :
    (s.setBuffer b bytes).keyBuf = if b = .keyBuf then bytes else s.keyBuf := by cases b <;> rfl
@[simp] theorem State.setBuffer_ivBuf (s : State) (b : Buffer) (bytes : Bytes) :
    (s.setBuffer b bytes).ivBuf = if b = .ivBuf then bytes else s.ivBuf := by cases b <;> rfl
@[simp] theorem State.setBuffer_inBuf (s : State) (b : Buffer) (bytes : Bytes) :
    (s.setBuffer b bytes).inBuf = if b = .inBuf then bytes else s.inBuf := by cases b <;> rfl
@[simp] theorem State.setBuffer_outBuf (s : State) (b : Buffer) (bytes : Bytes) :
    (s.setBuffer b bytes).outBuf = if b = .outBuf then bytes else s.outBuf := by cases b <;> rfl
@[simp] theorem State.setBuffer_cmd (s : State) (b : Buffer) (bytes : Bytes) :
    (s.setBuffer b bytes).cmd = s.cmd := by cases b <;> rfl
@[simp] theorem State.setBuffer_done (s : State) (b : Buffer) (bytes : Bytes) :
    (s.setBuffer b bytes).done = s.done := by cases b <;> rfl
@[simp] theorem State.setBuffer_errCode (s : State) (b : Buffer) (bytes : Bytes) :
    (s.setBuffer b bytes).errCode = s.errCode := by cases b <;> rfl
@[simp] theorem State.setBuffer_embed (s : State) (b : Buffer) (bytes : Bytes) :
    (s.setBuffer b bytes).embed = if b = .ivBuf then false else s.embed := by cases b <;> rfl
@[simp] theorem State.setBuffer_ks (s : State) (b : Buffer) (bytes : Bytes) :
    (s.setBuffer b bytes).ks = s.ks := by cases b <;> rfl
@[simp] theorem State.setBuffer_ks2 (s : State) (b : Buffer) (bytes : Bytes) :
    (s.setBuffer b bytes).ks2 = s.ks2 := by cases b <;> rfl
@[simp] theorem State.setBuffer_ksValid (s : State) (b : Buffer) (bytes : Bytes) :
    (s.setBuffer b bytes).ksValid = s.ksValid := by cases b <;> rfl
@[simp] theorem State.setBuffer_scratch (s : State) (b : Buffer) (bytes : Bytes) :
    (s.setBuffer b bytes).scratch = s.scratch := by cases b <;> rfl
@[simp] theorem State.setBuffer_params (s : State) (b : Buffer) (bytes : Bytes) :
    (s.setBuffer b bytes).params = s.params := by cases b <;> rfl
@[simp] theorem State.setBuffer_pending (s : State) (b : Buffer) (bytes : Bytes) :
    (s.setBuffer b bytes).pending = s.pending := by cases b <;> rfl
@[simp] theorem State.setBuffer_reply (s : State) (b : Buffer) (bytes : Bytes) :
    (s.setBuffer b bytes).reply = s.reply := by cases b <;> rfl
@[simp] theorem State.setBuffer_entropy (s : State) (b : Buffer) (bytes : Bytes) :
    (s.setBuffer b bytes).entropy = s.entropy := by cases b <;> rfl
@[simp] theorem State.setBuffer_draws (s : State) (b : Buffer) (bytes : Bytes) :
    (s.setBuffer b bytes).draws = s.draws := by cases b <;> rfl

/-! What a draw answers depends on the random source only. -/

@[simp] theorem State.rand_length (s : State) (n : Nat) : (s.rand n).length = n := by simp [State.rand]

theorem State.rand_congr (s t : State) (he : s.entropy = t.entropy) (hd : s.draws = t.draws) (n : Nat) :
    s.rand n = t.rand n := by simp [State.rand, he, hd]

@[simp] theorem State.rand_zero (s : State) : s.rand 0 = [] := rfl

@[simp] theorem State.drawn_zero (s : State) : s.drawn 0 = s := rfl

end Sys2Proof.Machine
end

