-- ==== Sys2Proof/Laws/Ops.lean ====
section
/-! SUPPORT. What the shared operations can do, said once: the wrapper of R87, the rule of every instruction, and what no rule
touches. -/

namespace Sys2Proof.Machine

/-! ## The wrapper -/

/-- A command whose rule succeeds commits its result. -/
theorem runCommand_of_ok (f : Bool) (rule : State → RuleResult) (s t : State) (res : Bytes) (h : rule s = (t, .ok res)) :
    runCommand f rule s = .next (t.commit res) := by simp [runCommand, h]

/-- A command whose rule raises takes the error. -/
theorem runCommand_of_error (f : Bool) (rule : State → RuleResult) (s t : State) (k : ErrorKind)
    (h : rule s = (t, .error k)) : runCommand f rule s = .next (s.takeError f k t) := by simp [runCommand, h]

/-- Everything the wrapper can do: it answers a next state, the commit of the rule's result or the entry of its error. -/
theorem runCommand_next (f : Bool) (rule : State → RuleResult) (s t : State) (h : runCommand f rule s = .next t) :
    (∃ u res, rule s = (u, .ok res) ∧ t = u.commit res) ∨ ∃ u k, rule s = (u, .error k) ∧ t = s.takeError f k u := by
  unfold runCommand at h
  split at h
  · next u res hr => exact .inl ⟨u, res, hr, by injection h with h; exact h.symm⟩
  · next u k hr => exact .inr ⟨u, k, hr, by injection h with h; exact h.symm⟩

/-- The wrapper never stops. -/
theorem runCommand_completes (f : Bool) (rule : State → RuleResult) (s : State) : ∃ t, runCommand f rule s = .next t := by
  unfold runCommand
  split
  · exact ⟨_, rfl⟩
  · exact ⟨_, rfl⟩

/-- A rule that writes nothing but its result, where it succeeds. -/
theorem runPure_of_ok (g : State → Except ErrorKind Bytes) (s : State) (res : Bytes) (h : g s = .ok res) :
    runCommand false (pureRule g) s = .next (resultState s res) := runCommand_of_ok _ _ _ _ _ (by simp [pureRule, h])

/-- A rule that writes nothing but its result, where it raises. -/
theorem runPure_of_error (g : State → Except ErrorKind Bytes) (s : State) (k : ErrorKind) (h : g s = .error k) :
    runCommand false (pureRule g) s = .next (failedState s (errorCode k)) :=
  runCommand_of_error _ _ _ _ _ (by simp [pureRule, h])

/-- `commit` is `resultState`, the statements' name for it. -/
theorem commit_eq_resultState (s : State) (res : Bytes) : s.commit res = resultState s res := rfl

/-- Every error kind's code is 1 to 10 (R231). -/
theorem errorCode_range (k : ErrorKind) : errorCode k ≠ 0 ∧ (errorCode k).toNat ≤ 10 := by cases k <;> decide

/-- Two kinds with one code are one kind (R231). -/
theorem errorCode_injective (j k : ErrorKind) (h : errorCode j = errorCode k) : j = k := by
  cases j <;> cases k <;> first | rfl | exact absurd h (by decide)

/-! ## The rule of each instruction -/

/-- The rule that each instruction runs (column "semantics" of R81). -/
def ruleOf : Instr → State → RuleResult
  | .kexp => kexpRule
  | .encb => pureRule (blockResult encryptBlock)
  | .decb => pureRule (blockResult decryptBlock)
  | .kclr => kclrRule
  | .padNone => padRule .none
  | .padPkcs7 => padRule .pkcs7
  | .padIso7816_4 => padRule .iso7816_4
  | .padAnsi923 => padRule .ansi923
  | .padIso10126 => padRule .iso10126
  | .padZero => padRule .zero
  | .unpadNone => pureRule (unpadResult .none)
  | .unpadPkcs7 => pureRule (unpadResult .pkcs7)
  | .unpadIso7816_4 => pureRule (unpadResult .iso7816_4)
  | .unpadAnsi923 => pureRule (unpadResult .ansi923)
  | .unpadIso10126 => pureRule (unpadResult .iso10126)
  | .unpadZero => pureRule (unpadResult .zero)
  | .mencEcb => pureRule (mencResult .ecb)
  | .mencCbc => pureRule (mencResult .cbc)
  | .mencOfb => pureRule (mencResult .ofb)
  | .mencCfb => pureRule (mencResult .cfb)
  | .mencCtr => pureRule (mencResult .ctr)
  | .mencXts => pureRule (mencResult .xts)
  | .mdecEcb => pureRule (mdecResult .ecb)
  | .mdecCbc => pureRule (mdecResult .cbc)
  | .mdecOfb => pureRule (mdecResult .ofb)
  | .mdecCfb => pureRule (mdecResult .cfb)
  | .mdecCtr => pureRule (mdecResult .ctr)
  | .mdecXts => pureRule (mdecResult .xts)
  | .ivre mode policy => ivreRule mode policy
  | .ivrd mode policy => ivrdRule mode policy
  | .ivpp => pureRule ivppResult
  | .b64e => pureRule b64eResult
  | .b64d => pureRule b64dResult
  | .aeseX mode scheme => aeseRule mode scheme .explicit false
  | .aeseF flag mode scheme => aeseRule mode scheme (Policy.ofFlag flag) false
  | .aeseXB64 mode scheme => aeseRule mode scheme .explicit true
  | .aeseFB64 flag mode scheme => aeseRule mode scheme (Policy.ofFlag flag) true
  | .aesdX mode scheme => aesdRule mode scheme .explicit false
  | .aesdF flag mode scheme => aesdRule mode scheme (Policy.ofFlag flag) false
  | .aesdXB64 mode scheme => aesdRule mode scheme .explicit true
  | .aesdFB64 flag mode scheme => aesdRule mode scheme (Policy.ofFlag flag) true

/-- Every instruction is its rule in the wrapper. -/
theorem exec_eq_runCommand (i : Instr) (s : State) : exec i s = runCommand (isFacade i) (ruleOf i) s := by
  cases i <;> rfl

theorem exec_padOf (p : Scheme) (s : State) : exec (.padOf p) s = runCommand false (padRule p) s := by cases p <;> rfl

theorem exec_unpadOf (p : Scheme) (s : State) :
    exec (.unpadOf p) s = runCommand false (pureRule (unpadResult p)) s := by cases p <;> rfl

theorem exec_mencOf (m : Mode) (s : State) : exec (.mencOf m) s = runCommand false (pureRule (mencResult m)) s := by
  cases m <;> rfl

theorem exec_mdecOf (m : Mode) (s : State) : exec (.mdecOf m) s = runCommand false (pureRule (mdecResult m)) s := by
  cases m <;> rfl

theorem exec_aeseOf (m : Mode) (p : Scheme) (v : Policy) (b : Bool) (s : State) :
    exec (.aeseOf m p v b) s = runCommand true (aeseRule m p v b) s := by cases v <;> cases b <;> rfl

theorem exec_aesdOf (m : Mode) (p : Scheme) (v : Policy) (b : Bool) (s : State) :
    exec (.aesdOf m p v b) s = runCommand true (aesdRule m p v b) s := by cases v <;> cases b <;> rfl

/-- A facade command is AESE or AESD with some operands. -/
theorem isFacade_cases (i : Instr) (h : isFacade i = true) :
    ∃ m p v b, i = .aeseOf m p v b ∨ i = .aesdOf m p v b := by
  cases i with
  | aeseX m p => exact ⟨m, p, .explicit, false, .inl rfl⟩
  | aeseF f m p => cases f with
    | false => exact ⟨m, p, .flag0, false, .inl rfl⟩
    | true => exact ⟨m, p, .flag1, false, .inl rfl⟩
  | aeseXB64 m p => exact ⟨m, p, .explicit, true, .inl rfl⟩
  | aeseFB64 f m p => cases f with
    | false => exact ⟨m, p, .flag0, true, .inl rfl⟩
    | true => exact ⟨m, p, .flag1, true, .inl rfl⟩
  | aesdX m p => exact ⟨m, p, .explicit, false, .inr rfl⟩
  | aesdF f m p => cases f with
    | false => exact ⟨m, p, .flag0, false, .inr rfl⟩
    | true => exact ⟨m, p, .flag1, false, .inr rfl⟩
  | aesdXB64 m p => exact ⟨m, p, .explicit, true, .inr rfl⟩
  | aesdFB64 f m p => cases f with
    | false => exact ⟨m, p, .flag0, true, .inr rfl⟩
    | true => exact ⟨m, p, .flag1, true, .inr rfl⟩
  | _ => simp [isFacade] at h

/-! ## What no rule touches -/

/-- The fields that no command's rule writes: the host's buffers, the registers that the wrapper writes, the parameters and
the host's side (R20, R87). -/
structure RuleFrame (s t : State) : Prop where
  keyBuf : t.keyBuf = s.keyBuf
  inBuf : t.inBuf = s.inBuf
  outBuf : t.outBuf = s.outBuf
  cmd : t.cmd = s.cmd
  done : t.done = s.done
  errCode : t.errCode = s.errCode
  scratch : t.scratch = s.scratch
  params : t.params = s.params
  pending : t.pending = s.pending
  reply : t.reply = s.reply

theorem RuleFrame.rfl' (s : State) : RuleFrame s s := ⟨rfl, rfl, rfl, rfl, rfl, rfl, rfl, rfl, rfl, rfl⟩

theorem RuleFrame.trans' {s t u : State} (h : RuleFrame s t) (k : RuleFrame t u) : RuleFrame s u :=
  ⟨k.keyBuf.trans h.keyBuf, k.inBuf.trans h.inBuf, k.outBuf.trans h.outBuf, k.cmd.trans h.cmd, k.done.trans h.done,
    k.errCode.trans h.errCode, k.scratch.trans h.scratch, k.params.trans h.params, k.pending.trans h.pending,
    k.reply.trans h.reply⟩

theorem drawn_frame (s : State) (n : Nat) : RuleFrame s (s.drawn n) := ⟨rfl, rfl, rfl, rfl, rfl, rfl, rfl, rfl, rfl, rfl⟩

theorem destroySchedule_frame (s : State) : RuleFrame s s.destroySchedule :=
  ⟨rfl, rfl, rfl, rfl, rfl, rfl, rfl, rfl, rfl, rfl⟩

theorem expandKeys_frame (s : State) : RuleFrame s s.expandKeys := ⟨rfl, rfl, rfl, rfl, rfl, rfl, rfl, rfl, rfl, rfl⟩

theorem resolveIvEnc_frame (m : Mode) (v : Policy) (s : State) : RuleFrame s (resolveIvEnc m v s) := by
  unfold resolveIvEnc
  cases needsIv m <;> cases v <;> exact ⟨rfl, rfl, rfl, rfl, rfl, rfl, rfl, rfl, rfl, rfl⟩

theorem resolveIvDec_frame (m : Mode) (v : Policy) (d : Bytes) (s : State) : RuleFrame s (resolveIvDec m v d s).1 := by
  unfold resolveIvDec
  by_cases hd : d.length < Config.ivBytes <;> cases needsIv m <;> cases v <;> simp only [hd, if_true, if_false] <;>
    exact ⟨rfl, rfl, rfl, rfl, rfl, rfl, rfl, rfl, rfl, rfl⟩

theorem padWhereApplies_frame (m : Mode) (p : Scheme) (d : Bytes) (s : State) :
    RuleFrame s (padWhereApplies m p d s).1 := by
  unfold padWhereApplies padDrawing
  cases padApplies m p <;> exact ⟨rfl, rfl, rfl, rfl, rfl, rfl, rfl, rfl, rfl, rfl⟩

theorem aeseRule_frame (m : Mode) (p : Scheme) (v : Policy) (b : Bool) (s : State) :
    RuleFrame s (aeseRule m p v b s).1 := by
  have h := (expandKeys_frame s).trans' (resolveIvEnc_frame m v s.expandKeys)
  have k := h.trans' (padWhereApplies_frame m p (resolveIvEnc m v s.expandKeys).inBuf (resolveIvEnc m v s.expandKeys))
  unfold aeseRule
  by_cases hk : s.keyBuf.length ≠ Config.keyBytes
  · rw [if_pos hk]; exact RuleFrame.rfl' s
  · rw [if_neg hk]
    dsimp only
    split
    · next u e hu => rw [hu] at k; exact k
    · next u d hu => rw [hu] at k; exact k.trans' (destroySchedule_frame u)

theorem aesdRule_frame (m : Mode) (p : Scheme) (v : Policy) (b : Bool) (s : State) :
    RuleFrame s (aesdRule m p v b s).1 := by
  unfold aesdRule
  by_cases hk : s.keyBuf.length ≠ Config.keyBytes
  · rw [if_pos hk]; exact RuleFrame.rfl' s
  · rw [if_neg hk]
    split
    · exact expandKeys_frame s
    · next d _ =>
      have k := (expandKeys_frame s).trans' (resolveIvDec_frame m v d s.expandKeys)
      split
      · next t e ht => rw [ht] at k; exact k
      · next t r ht => rw [ht] at k; exact k.trans' (destroySchedule_frame t)

/-- No command's rule writes the fields of `RuleFrame`. -/
theorem ruleOf_frame (i : Instr) (s : State) : RuleFrame s (ruleOf i s).1 := by
  cases i with
  | kexp =>
    show RuleFrame s (kexpRule s).1
    unfold kexpRule
    split
    · exact RuleFrame.rfl' s
    · exact expandKeys_frame s
  | kclr => exact destroySchedule_frame s
  | ivre m v => exact resolveIvEnc_frame m v s
  | ivrd m v => exact resolveIvDec_frame m v s.inBuf s
  | padNone | padPkcs7 | padIso7816_4 | padAnsi923 | padIso10126 | padZero => exact drawn_frame s _
  | aeseX | aeseF | aeseXB64 | aeseFB64 => exact aeseRule_frame _ _ _ _ s
  | aesdX | aesdF | aesdXB64 | aesdFB64 => exact aesdRule_frame _ _ _ _ s
  | _ => exact RuleFrame.rfl' s

end Sys2Proof.Machine
end

