-- ==== Sys2Proof/Laws/Memory.lean ====
section
/-! SUPPORT. The form of memory: every operation on the buffers keeps `Memory.wf`, and the reset state has it. -/

namespace Sys2Proof.Machine

@[simp] theorem fits_some (n cap : Nat) : fits n (some cap) = true ↔ n ≤ cap := by simp [fits]

/-- `Memory.wf`, its four conditions spelled out. -/
theorem Memory.wf_iff (s : State) :
    Memory.wf s = true ↔
      s.keyBuf.length ≤ 64 ∧ s.ivBuf.length ≤ 32 ∧ fits s.inBuf.length s.params.bufCap = true ∧
        fits s.outBuf.length s.params.bufCap = true := by
  simp [Memory.wf, State.capacity, and_assoc]

/-- The empty sequence fits every capacity. -/
@[simp] theorem fits_zero (cap : Option Nat) : fits 0 cap = true := by cases cap <;> simp [fits]

/-- Two states with the same buffers and parameters are in form together. -/
theorem Memory.wf_congr (s t : State) (hk : t.keyBuf = s.keyBuf) (hv : t.ivBuf = s.ivBuf) (hi : t.inBuf = s.inBuf)
    (ho : t.outBuf = s.outBuf) (hp : t.params = s.params) : Memory.wf t = Memory.wf s := by
  simp [Memory.wf, State.capacity, hk, hv, hi, ho, hp]

theorem reset_wf : Memory.wf State.reset = true := by decide

theorem answer_wf (s : State) (r : HostReply) (h : Memory.wf s = true) : Memory.wf (s.answer r) = true := h

theorem hostLoad_wf (b : Buffer) (bytes : Bytes) (s : State) (h : Memory.wf s = true) :
    Memory.wf (hostLoad b bytes s) = true := by
  cases b with
  | outBuf => exact h
  | keyBuf | ivBuf | inBuf =>
    simp only [hostLoad]
    split
    · next hf =>
      rw [Memory.wf_iff] at h ⊢
      simp_all [State.answer, State.setBuffer, State.capacity]
    · exact h

theorem hostReadBuf_wf (b : Buffer) (s : State) (h : Memory.wf s = true) : Memory.wf (hostReadBuf b s) = true := by
  cases b <;> exact h

theorem hostReadReg_wf (n : Nat) (s : State) (h : Memory.wf s = true) : Memory.wf (hostReadReg n s) = true := by
  unfold hostReadReg; split <;> exact h

theorem hostReset_wf (s : State) : Memory.wf (hostReset s) = true := by
  rw [Memory.wf_iff]; simp [hostReset, State.reset]

theorem takeError_wf (s : State) (f : Bool) (k : ErrorKind) (u : State) (h : Memory.wf s = true) :
    Memory.wf (s.takeError f k u) = true := by
  rw [Memory.wf_iff] at h ⊢
  cases f <;> simp [State.takeError, State.destroySchedule, h]

theorem commit_wf (s : State) (res : Bytes) (h : Memory.wf s = true) (hf : fits res.length s.params.bufCap = true) :
    Memory.wf (s.commit res) = true := by
  rw [Memory.wf_iff] at h ⊢
  simp [State.commit, h, hf]

@[simp] theorem rand_length (s : State) (n : Nat) : (s.rand n).length = n := by simp [State.rand]

theorem resolveIvEnc_wf (m : Mode) (v : Policy) (s : State) (h : Memory.wf s = true) :
    Memory.wf (resolveIvEnc m v s) = true := by
  rw [Memory.wf_iff] at h ⊢
  unfold resolveIvEnc
  cases needsIv m <;> cases v <;> simp [State.drawn, h, Config.ivBytes]

theorem resolveIvDec_wf (m : Mode) (v : Policy) (d : Bytes) (s : State) (h : Memory.wf s = true) :
    Memory.wf (resolveIvDec m v d s).1 = true := by
  rw [Memory.wf_iff] at h ⊢
  unfold resolveIvDec
  by_cases hd : d.length < Config.ivBytes <;> cases needsIv m <;> cases v <;> simp [hd, h, memRead, Config.ivBytes]

end Sys2Proof.Machine
end

