-- ==== Sys2Proof/Laws/PerInstr.lean ====
section
/-! SUPPORT. Statements made per instruction, about the instruction as syntax: its word lies on its row of
spec/opcode_table.json. -/

namespace Sys2Proof.Laws.TableRow

/-- The word of an instruction agrees with the `match` of its row on every bit of the row's `mask` (R86, R213). -/
def Statement (i : Instr) : Prop := encode i &&& rowMask i = rowMatch i

theorem kexp : Statement .kexp := rfl

theorem encb : Statement .encb := rfl

theorem decb : Statement .decb := rfl

theorem kclr : Statement .kclr := rfl

theorem padNone : Statement .padNone := rfl

theorem padPkcs7 : Statement .padPkcs7 := rfl

theorem padIso7816_4 : Statement .padIso7816_4 := rfl

theorem padAnsi923 : Statement .padAnsi923 := rfl

theorem padIso10126 : Statement .padIso10126 := rfl

theorem padZero : Statement .padZero := rfl

theorem unpadNone : Statement .unpadNone := rfl

theorem unpadPkcs7 : Statement .unpadPkcs7 := rfl

theorem unpadIso7816_4 : Statement .unpadIso7816_4 := rfl

theorem unpadAnsi923 : Statement .unpadAnsi923 := rfl

theorem unpadIso10126 : Statement .unpadIso10126 := rfl

theorem unpadZero : Statement .unpadZero := rfl

theorem mencEcb : Statement .mencEcb := rfl

theorem mencCbc : Statement .mencCbc := rfl

theorem mencOfb : Statement .mencOfb := rfl

theorem mencCfb : Statement .mencCfb := rfl

theorem mencCtr : Statement .mencCtr := rfl

theorem mencXts : Statement .mencXts := rfl

theorem mdecEcb : Statement .mdecEcb := rfl

theorem mdecCbc : Statement .mdecCbc := rfl

theorem mdecOfb : Statement .mdecOfb := rfl

theorem mdecCfb : Statement .mdecCfb := rfl

theorem mdecCtr : Statement .mdecCtr := rfl

theorem mdecXts : Statement .mdecXts := rfl

theorem ivre (m : Mode) (v : Policy) : Statement (.ivre m v) := by cases m <;> cases v <;> rfl

theorem ivrd (m : Mode) (v : Policy) : Statement (.ivrd m v) := by cases m <;> cases v <;> rfl

theorem ivpp : Statement .ivpp := rfl

theorem b64e : Statement .b64e := rfl

theorem b64d : Statement .b64d := rfl

theorem aeseX (m : Mode) (p : Scheme) : Statement (.aeseX m p) := by cases m <;> cases p <;> rfl

theorem aeseF (f : Bool) (m : Mode) (p : Scheme) : Statement (.aeseF f m p) := by
  cases f <;> cases m <;> cases p <;> rfl

theorem aeseXB64 (m : Mode) (p : Scheme) : Statement (.aeseXB64 m p) := by cases m <;> cases p <;> rfl

theorem aeseFB64 (f : Bool) (m : Mode) (p : Scheme) : Statement (.aeseFB64 f m p) := by
  cases f <;> cases m <;> cases p <;> rfl

theorem aesdX (m : Mode) (p : Scheme) : Statement (.aesdX m p) := by cases m <;> cases p <;> rfl

theorem aesdF (f : Bool) (m : Mode) (p : Scheme) : Statement (.aesdF f m p) := by
  cases f <;> cases m <;> cases p <;> rfl

theorem aesdXB64 (m : Mode) (p : Scheme) : Statement (.aesdXB64 m p) := by cases m <;> cases p <;> rfl

theorem aesdFB64 (f : Bool) (m : Mode) (p : Scheme) : Statement (.aesdFB64 f m p) := by
  cases f <;> cases m <;> cases p <;> rfl

end Sys2Proof.Laws.TableRow
end

