-- ==== Sys2Proof/Tests/Slice0.lean ====
section
/-! SUPPORT. Tests. Expected values are taken from spec/95_test_vectors.md (its section is named at each test) and from the
words of spec/30_encoding.md and spec/45_facade.md, never from the model. After them, one witness for the hypotheses of each
statement that has any. -/

namespace Sys2Proof.Tests

open Sys2Proof Sys2Proof.Machine

-- One theorem at a time: the kernel evaluations below need no thread each.
set_option Elab.async false

/-! ## Helpers -/

/-- `n` bytes written as one hexadecimal number, first byte first. -/
def hex (n v : Nat) : Bytes := (List.range n).map fun i => BitVec.ofNat 8 (v / 256 ^ (n - 1 - i))

/-- The characters of an ASCII text as bytes. -/
def ascii (t : String) : Bytes := t.toList.map fun c => BitVec.ofNat 8 c.toNat

/-- The next state, if there is one. -/
def nextOf (o : Host.Outcome State Fault Refusal) : Option State :=
  match o with
  | .next t => some t
  | .fault _ => none
  | .refused _ => none

/-- One step that executes the command word `w`: STATUS, ERRCODE and OUTBUF after it. -/
def ran (s : State) (w : Nat) : Option (Nat × Nat × Bytes) :=
  (nextOf (step (s.withFetchWord 32 w))).map fun t => (t.status.toNat, t.errCode.toNat, t.outBuf)

/-- The result of a transaction. -/
def did (s : State) (t : HostTxn) : Option State := nextOf (step { s with pending := [t] })

/-- ERRCODE after an instruction. -/
def codeOf (i : Instr) (s : State) : Option Nat := (nextOf (exec i s)).map fun t => t.errCode.toNat

theorem exists_of_codeOf (i : Instr) (s : State) (n : Nat) (h : codeOf i s = some n) :
    ∃ t, exec i s = .next t ∧ t.errCode.toNat = n := by
  unfold codeOf at h
  cases hx : exec i s with
  | next t => exact ⟨t, rfl, by simpa [hx, nextOf] using h⟩
  | fault r => simp [hx, nextOf] at h
  | refused r => simp [hx, nextOf] at h

/-- `KF`, `KN`, `IVN`, `IVX`, `PN` (17 bytes of it), `T18`, `PF` of spec/95. -/
def kf : Bytes := hex 32 0x000102030405060708090a0b0c0d0e0f101112131415161718191a1b1c1d1e1f
def kn : Bytes := hex 32 0x603deb1015ca71be2b73aef0857d77811f352c073b6108d72d9810a30914dff4
def ivn : Bytes := hex 16 0x000102030405060708090a0b0c0d0e0f
def ivx : Bytes := hex 16 0x101112131415161718191a1b1c1d1e1f
def pn16 : Bytes := hex 16 0x6bc1bee22e409f96e93d7e117393172a
def pn17 : Bytes := hex 17 0x6bc1bee22e409f96e93d7e117393172aae
def t18 : Bytes := hex 18 0x6b6c6962204145532d32353620636f726521
def pf : Bytes := hex 16 0x00112233445566778899aabbccddeeff

/-- Reset, then the input loaded. -/
def withIn (d : Bytes) : State := { State.reset with inBuf := d }

/-- The state that KEXP leaves with a key, then an IV and an input loaded. -/
def keyed (key iv d : Bytes) : State :=
  { State.reset with
    keyBuf := key, ivBuf := iv, inBuf := d, ks := expandKey key, ks2 := expandKey key, ksValid := true, done := true }

/-- Reset, then key, IV and input loaded, and what the random source is going to give. -/
def loaded (key iv d : Bytes) (rand : Bytes) : State :=
  { State.reset with keyBuf := key, ivBuf := iv, inBuf := d, entropy := rand }

/-- The draw `a0 a1 ...` of spec/95. -/
def drawA0 : Bytes := (List.range 40).map fun k => BitVec.ofNat 8 (0xA0 + k)

/-- A single byte `0x11` repeated. -/
def ones (n : Nat) : Bytes := List.replicate n 0x11

/-! ## Well-formedness (R80, R86, R88): an ill-formed word for each check, and a well-formed one -/

theorem test_wellformed_op_undefined :
    (fieldsOf 0x00000006).opDefined = false ∧ (fieldsOf 0x00000006).wellFormed = false := by decide

theorem test_wellformed_bit11 :
    (fieldsOf 0x00000850).reservedClear = false ∧ (fieldsOf 0x00000850).wellFormed = false := by decide

theorem test_wellformed_bit15 :
    (fieldsOf 0x00008050).reservedClear = false ∧ (fieldsOf 0x00008050).wellFormed = false := by decide

theorem test_wellformed_bit19 :
    (fieldsOf 0x00080050).reservedClear = false ∧ (fieldsOf 0x00080050).wellFormed = false := by decide

theorem test_wellformed_bit31 :
    (fieldsOf 0x80000050).reservedClear = false ∧ (fieldsOf 0x80000050).wellFormed = false := by decide

theorem test_wellformed_mode_untaken :
    (fieldsOf 0x00000101).untakenClear = false ∧ (fieldsOf 0x00000101).wellFormed = false := by decide

theorem test_wellformed_pad_untaken :
    (fieldsOf 0x00001020).untakenClear = false ∧ (fieldsOf 0x00001020).wellFormed = false := by decide

theorem test_wellformed_ivp_untaken :
    (fieldsOf 0x00010010).untakenClear = false ∧ (fieldsOf 0x00010010).wellFormed = false := by decide

theorem test_wellformed_b64_untaken :
    (fieldsOf 0x00040030).untakenClear = false ∧ (fieldsOf 0x00040030).wellFormed = false := by decide

theorem test_codes_mode6 : (fieldsOf 0x00000650).wellFormed = true ∧ (fieldsOf 0x00000650).codesLegal =
      false := by decide

theorem test_codes_pad6 : (fieldsOf 0x00006050).wellFormed = true ∧ (fieldsOf 0x00006050).codesLegal =
      false := by decide

theorem test_codes_ivp1 : (fieldsOf 0x00010050).wellFormed = true ∧ (fieldsOf 0x00010050).codesLegal =
      false := by decide

theorem test_wellformed_good : (fieldsOf 0x00071451).wellFormed = true ∧ (fieldsOf 0x00071451).codesLegal =
      true := by decide

/-- spec/95 section 8.6 and program P5, lines N14 to N22. -/
theorem test_decode_bad_words :
    decode 0x00000006 = .error .illegalCommand ∧ decode 0x00000101 = .error .illegalCommand ∧
    decode 0x00080650 = .error .illegalCommand ∧ decode 0x00000720 = .error .unsupportedModeOption ∧
    decode 0x00007010 = .error .unsupportedModeOption ∧ decode 0x00010050 = .error .unsupportedModeOption := by decide

/-! ## Decoding: the word of every constructor, its bits written out from R80 to R86: bits 31:19, B64, IVP, bit 15, PAD,
bit 11, MODE, OP -/

theorem test_decode_kexp : decode 0b0000000000000_0_00_0_000_0_000_00000001 = .ok .kexp := by decide

theorem test_decode_encb : decode 0b0000000000000_0_00_0_000_0_000_00000010 = .ok .encb := by decide

theorem test_decode_decb : decode 0b0000000000000_0_00_0_000_0_000_00000011 = .ok .decb := by decide

theorem test_decode_kclr : decode 0b0000000000000_0_00_0_000_0_000_00000100 = .ok .kclr := by decide

theorem test_decode_padNone : decode 0b0000000000000_0_00_0_000_0_000_00010000 = .ok .padNone := by decide

theorem test_decode_padPkcs7 : decode 0b0000000000000_0_00_0_001_0_000_00010000 = .ok .padPkcs7 := by decide

theorem test_decode_padIso7816_4 : decode 0b0000000000000_0_00_0_010_0_000_00010000 = .ok .padIso7816_4 := by decide

theorem test_decode_padAnsi923 : decode 0b0000000000000_0_00_0_011_0_000_00010000 = .ok .padAnsi923 := by decide

theorem test_decode_padIso10126 : decode 0b0000000000000_0_00_0_100_0_000_00010000 = .ok .padIso10126 := by decide

theorem test_decode_padZero : decode 0b0000000000000_0_00_0_101_0_000_00010000 = .ok .padZero := by decide

theorem test_decode_unpadNone : decode 0b0000000000000_0_00_0_000_0_000_00010001 = .ok .unpadNone := by decide

theorem test_decode_unpadPkcs7 : decode 0b0000000000000_0_00_0_001_0_000_00010001 = .ok .unpadPkcs7 := by decide

theorem test_decode_unpadIso7816_4 : decode 0b0000000000000_0_00_0_010_0_000_00010001 =
      .ok .unpadIso7816_4 := by decide

theorem test_decode_unpadAnsi923 : decode 0b0000000000000_0_00_0_011_0_000_00010001 = .ok .unpadAnsi923 := by decide

theorem test_decode_unpadIso10126 : decode 0b0000000000000_0_00_0_100_0_000_00010001 = .ok .unpadIso10126 := by decide

theorem test_decode_unpadZero : decode 0b0000000000000_0_00_0_101_0_000_00010001 = .ok .unpadZero := by decide

theorem test_decode_mencEcb : decode 0b0000000000000_0_00_0_000_0_000_00100000 = .ok .mencEcb := by decide

theorem test_decode_mencCbc : decode 0b0000000000000_0_00_0_000_0_001_00100000 = .ok .mencCbc := by decide

theorem test_decode_mencOfb : decode 0b0000000000000_0_00_0_000_0_010_00100000 = .ok .mencOfb := by decide

theorem test_decode_mencCfb : decode 0b0000000000000_0_00_0_000_0_011_00100000 = .ok .mencCfb := by decide

theorem test_decode_mencCtr : decode 0b0000000000000_0_00_0_000_0_100_00100000 = .ok .mencCtr := by decide

theorem test_decode_mencXts : decode 0b0000000000000_0_00_0_000_0_101_00100000 = .ok .mencXts := by decide

theorem test_decode_mdecEcb : decode 0b0000000000000_0_00_0_000_0_000_00100001 = .ok .mdecEcb := by decide

theorem test_decode_mdecCbc : decode 0b0000000000000_0_00_0_000_0_001_00100001 = .ok .mdecCbc := by decide

theorem test_decode_mdecOfb : decode 0b0000000000000_0_00_0_000_0_010_00100001 = .ok .mdecOfb := by decide

theorem test_decode_mdecCfb : decode 0b0000000000000_0_00_0_000_0_011_00100001 = .ok .mdecCfb := by decide

theorem test_decode_mdecCtr : decode 0b0000000000000_0_00_0_000_0_100_00100001 = .ok .mdecCtr := by decide

theorem test_decode_mdecXts : decode 0b0000000000000_0_00_0_000_0_101_00100001 = .ok .mdecXts := by decide

theorem test_decode_ivre : decode 0b0000000000000_0_11_0_000_0_001_00110000 = .ok (.ivre .cbc .flag1) := by decide

theorem test_decode_ivrd : decode 0b0000000000000_0_10_0_000_0_101_00110001 = .ok (.ivrd .xts .flag0) := by decide

theorem test_decode_ivpp : decode 0b0000000000000_0_00_0_000_0_000_00110010 = .ok .ivpp := by decide

theorem test_decode_b64e : decode 0b0000000000000_0_00_0_000_0_000_01000000 = .ok .b64e := by decide

theorem test_decode_b64d : decode 0b0000000000000_0_00_0_000_0_000_01000001 = .ok .b64d := by decide

theorem test_decode_aeseX : decode 0b0000000000000_0_00_0_101_0_101_01010000 = .ok (.aeseX .xts .zero) := by decide

theorem test_decode_aeseF : decode 0b0000000000000_0_11_0_001_0_001_01010000 =
      .ok (.aeseF true .cbc .pkcs7) := by decide

theorem test_decode_aeseXB64 : decode 0b0000000000000_1_00_0_100_0_010_01010000 =
      .ok (.aeseXB64 .ofb .iso10126) := by decide

theorem test_decode_aeseFB64 :
    decode 0b0000000000000_1_10_0_011_0_100_01010000 = .ok (.aeseFB64 false .ctr .ansi923) := by decide

theorem test_decode_aesdX : decode 0b0000000000000_0_00_0_101_0_101_01010001 = .ok (.aesdX .xts .zero) := by decide

theorem test_decode_aesdF : decode 0b0000000000000_0_11_0_001_0_001_01010001 =
      .ok (.aesdF true .cbc .pkcs7) := by decide

theorem test_decode_aesdXB64 : decode 0b0000000000000_1_00_0_100_0_010_01010001 =
      .ok (.aesdXB64 .ofb .iso10126) := by decide

theorem test_decode_aesdFB64 :
    decode 0b0000000000000_1_10_0_011_0_100_01010001 = .ok (.aesdFB64 false .ctr .ansi923) := by decide

/-! ## The block cipher (spec/95 sections 2 and 3) -/

theorem test_field :
    xtime 0xae = 0x47 ∧ xtime 0x57 = 0xae ∧ gmul 0x57 0x13 = 0xfe ∧ gmul 0x57 0x83 = 0xc1 ∧ ginv 0x53 = 0xca ∧
      ginv 0x00 = 0 := by decide +kernel

theorem test_sbox : sbox 0x53 = 0xed ∧ sboxFormula 0x53 = 0xed ∧ invSbox 0x10 = 0x7c ∧ sbox 0x00 =
      0x63 := by decide +kernel

theorem test_stages :
    shiftRows ivn = hex 16 0x00050a0f04090e03080d02070c01060b ∧
    invShiftRows ivn = hex 16 0x000d0a0704010e0b0805020f0c090603 ∧
    mixColumns ivn = hex 16 0x02070005060304010a0f080d0e0b0c09 ∧
    invMixColumns ivn = hex 16 0x0a0f080d0e0b0c090207000506030401 := by decide +kernel

theorem test_expandKey :
    memRead (expandKey kf) 32 4 = hex 4 0xa573c29f ∧ memRead (expandKey kf) 48 4 = hex 4 0x1651a8cd ∧
    memRead (expandKey kf) 224 16 = hex 16 0x24fc79ccbf0979e9371ac23c6d68de36 := by decide +kernel

/-- Section 3.5. -/
theorem test_kexp : ran { State.reset with keyBuf := kf } 0x00000001 = some (0x05, 0, []) := by decide +kernel

theorem test_kexp_short_key :
    ran { State.reset with keyBuf := kf.take 31 } 0x00000001 = some (0x03, 1, []) := by decide +kernel

/-- Section 3.5; the published AES-256 example. -/
theorem test_encb :
    ran (keyed kf [] pf) 0x00000002 = some (0x05, 0, hex 16 0x8ea2b7ca516745bfeafc49904b496089) := by decide +kernel

theorem test_encb_no_schedule : ran (withIn (pf.take 5)) 0x00000002 = some (0x03, 10, []) := by decide +kernel

theorem test_decb :
    ran (keyed kf [] (hex 16 0x8ea2b7ca516745bfeafc49904b496089)) 0x00000003 = some (0x05, 0, pf) := by decide +kernel

theorem test_decb_short_input : ran (keyed kf [] (pf.take 5)) 0x00000003 = some (0x07, 8, []) := by decide +kernel

theorem test_kclr : ran (keyed kf [] []) 0x00000004 = some (0x01, 0, []) := by decide +kernel

/-! ## Padding (spec/95 section 4) -/

theorem test_padNone :
    ran (withIn (ones 5)) 0x00000010 = some (0x03, 3, []) ∧ ran (withIn (ones 16)) 0x00000010 =
      some (0x01, 0, ones 16) := by decide +kernel

theorem test_padPkcs7 :
    ran (withIn (ones 5)) 0x00001010 = some (0x01, 0, hex 16 0x11111111110b0b0b0b0b0b0b0b0b0b0b) := by decide +kernel

theorem test_padIso7816_4 :
    ran (withIn (ones 15)) 0x00002010 = some (0x01, 0, hex 16 0x11111111111111111111111111111180) := by decide +kernel

theorem test_padAnsi923 : ran (withIn (ones 16)) 0x00003010 =
      some (0x01, 0, ones 16 ++ hex 16 0x10) := by decide +kernel

theorem test_padIso10126 :
    ran (loaded [] [] (ones 5) drawA0) 0x00004010 =
      some (0x01, 0, hex 16 0x1111111111a0a1a2a3a4a5a6a7a8a90b) := by decide +kernel

theorem test_padIso10126_no_draw : ran (withIn (ones 15)) 0x00004010 =
      some (0x01, 0, ones 15 ++ [0x01]) := by decide +kernel

theorem test_padZero :
    ran (withIn (ones 5)) 0x00005010 = some (0x01, 0, hex 16 0x11111111110000000000000000000000) := by decide +kernel

theorem test_padZero_empty : ran (withIn []) 0x00005010 = some (0x01, 0, []) := by decide +kernel

theorem test_unpadNone :
    ran (withIn (ones 3)) 0x00000011 = some (0x03, 3, []) ∧ ran (withIn (ones 16)) 0x00000011 =
      some (0x01, 0, ones 16) := by decide +kernel

theorem test_unpadPkcs7 :
    ran (withIn (hex 16 0x11111111111111111111111111030303)) 0x00001011 = some (0x01, 0, ones 13) := by decide +kernel

theorem test_unpadPkcs7_filler :
    ran (withIn (hex 16 0x11111111111111111111111111030203)) 0x00001011 = some (0x03, 4, []) := by decide +kernel

theorem test_unpadIso7816_4 :
    ran (withIn (hex 16 0x11111111111111111111111111118080)) 0x00002011 =
      some (0x01, 0, ones 14 ++ [0x80]) := by decide +kernel

theorem test_unpadIso7816_4_far :
    ran (withIn (ones 15 ++ [0x80] ++ zeros 16)) 0x00002011 = some (0x03, 4, []) := by decide +kernel

theorem test_unpadAnsi923 :
    ran (withIn (hex 16 0x11111111111111111111111111000003)) 0x00003011 = some (0x01, 0, ones 13) := by decide +kernel

theorem test_unpadAnsi923_nonzero :
    ran (withIn (hex 16 0x11111111111111111111111111000103)) 0x00003011 = some (0x03, 4, []) := by decide +kernel

theorem test_unpadIso10126 :
    ran (withIn (hex 16 0x11111111111111111111111111a0a103)) 0x00004011 = some (0x01, 0, ones 13) := by decide +kernel

theorem test_unpadIso10126_count17 : ran (withIn (ones 16)) 0x00004011 = some (0x03, 4, []) := by decide +kernel

theorem test_unpadZero : ran (withIn ([0x11] ++ zeros 31)) 0x00005011 = some (0x01, 0, [0x11]) := by decide +kernel

theorem test_unpadZero_inner :
    ran (withIn (hex 16 0x11001100110011001100110011001100)) 0x00005011 =
      some (0x01, 0, hex 15 0x110011001100110011001100110011) := by decide +kernel

/-! ## Modes (spec/95 section 5) -/

theorem test_mencEcb :
    ran (keyed kn ivn pn16) 0x00000020 =
      some (0x05, 0, hex 16 0xf3eed1bdb5d2a03c064b5a7e3db181f8) := by decide +kernel

theorem test_mencCbc :
    ran (keyed kn ivn pn16) 0x00000120 =
      some (0x05, 0, hex 16 0xf58c4c04d6e5f1ba779eabfb5f7bfbd6) := by decide +kernel

theorem test_mencOfb :
    ran (keyed kn ivn pn17) 0x00000220 =
      some (0x05, 0, hex 17 0xdc7e84bfda79164b7ecd8486985d38604f) := by decide +kernel

theorem test_mencCfb :
    ran (keyed kn ivn pn17) 0x00000320 =
      some (0x05, 0, hex 17 0xdc7e84bfda79164b7ecd8486985d386039) := by decide +kernel

theorem test_mencCtr :
    ran (keyed kn ivn pn17) 0x00000420 =
      some (0x05, 0, hex 17 0xdc7e84bfda79164b7ecd8486985d3860d5) := by decide +kernel

theorem test_mencXts :
    ran (keyed kn ivn pn17) 0x00000520 =
      some (0x05, 0, hex 17 0x2c82ce7a527adaa1ce9e08a8cbf6a05220) := by decide +kernel

theorem test_mdecEcb :
    ran (keyed kn ivn (hex 16 0xf3eed1bdb5d2a03c064b5a7e3db181f8)) 0x00000021 =
      some (0x05, 0, pn16) := by decide +kernel

theorem test_mdecCbc :
    ran (keyed kn ivn (hex 16 0xf58c4c04d6e5f1ba779eabfb5f7bfbd6)) 0x00000121 =
      some (0x05, 0, pn16) := by decide +kernel

theorem test_mdecOfb :
    ran (keyed kn ivn (hex 17 0xdc7e84bfda79164b7ecd8486985d38604f)) 0x00000221 =
      some (0x05, 0, pn17) := by decide +kernel

theorem test_mdecCfb :
    ran (keyed kn ivn (hex 17 0xdc7e84bfda79164b7ecd8486985d386039)) 0x00000321 =
      some (0x05, 0, pn17) := by decide +kernel

theorem test_mdecCtr :
    ran (keyed kn ivn (hex 17 0xdc7e84bfda79164b7ecd8486985d3860d5)) 0x00000421 =
      some (0x05, 0, pn17) := by decide +kernel

theorem test_mdecXts :
    ran (keyed kn ivn (hex 17 0x2c82ce7a527adaa1ce9e08a8cbf6a05220)) 0x00000521 =
      some (0x05, 0, pn17) := by decide +kernel

theorem test_mencCbc_iv_before_length :
    ran (keyed kn (ivn.take 15) (ones 5)) 0x00000120 = some (0x07, 2, []) := by decide +kernel

theorem test_mdecXts_short : ran (keyed kn ivn (ones 15)) 0x00000521 = some (0x07, 8, []) := by decide +kernel

/-- Section 5.7: XTS_K2 the reversed key (through the facade, which gives what MENC.XTS gives). -/
theorem test_xts_other_derivation :
    ran { loaded kn ivn (pn16 ++ hex 16 0xae2d8a571e03ac9c9eb76fac45af8e51) [] with
      params := { xtsK2 := [(kn, kn.reverse)], bufCap := none } } 0x00000550 =
    some (0x01, 0, hex 32 0x8ac587eb7ec4d4c3ecba19c898840bb7f1bdbb50fbc5526af85ad4a2bb33bb66) := by decide +kernel

theorem test_inc128 :
    inc128 (hex 16 0x0123456789abcdefffffffffffffffff) = hex 16 0x0123456789abcdf00000000000000000 ∧
    inc128 (hex 16 0xffffffffffffffffffffffffffffffff) = hex 16 0 := by decide +kernel

theorem test_mulAlpha :
    mulAlpha (hex 16 0x0123456789abcdeffedcba9876543210) = hex 16 0x02468ace12579bdffdb97531eda86420 ∧
    mulAlpha (hex 16 0x80) = hex 16 0x87000000000000000000000000000000 := by decide +kernel

/-! ## IV Manager (spec/95 section 6) -/

theorem test_ivre_flag1 : ran (loaded [] ivx [] drawA0) 0x00030130 = some (0x09, 0, []) := by decide +kernel

theorem test_ivre_flag0 :
    (nextOf (exec (.ivre .xts .flag0) (loaded [] ivx [] drawA0))).map (fun t => (t.ivBuf, t.embed, t.draws)) =
      some ([], false, 0) := by decide +kernel

theorem test_ivrd_flag1 :
    (nextOf (exec (.ivrd .cbc .flag1) (loaded [] ivx (hex 20 0x303132333435363738393a3b3c3d3e3f40414243) []))).map (fun t => (t.ivBuf, t.outBuf)) =
      some (hex 16 0x303132333435363738393a3b3c3d3e3f, hex 4 0x40414243) := by decide +kernel

theorem test_ivrd_missing :
    (nextOf (exec (.ivrd .cbc .flag1) (loaded [] ivx ((hex 20 0x303132333435363738393a3b3c3d3e3f40414243).take 15) []))).map (fun t => (t.ivBuf, t.errCode.toNat)) =
      some (ivx, 5) := by decide +kernel

theorem test_ivpp :
    ran { loaded [] (drawA0.take 16) [1, 2] [] with embed := true } 0x00000032 =
      some (0x09, 0, hex 18 0xa0a1a2a3a4a5a6a7a8a9aaabacadaeaf0102) := by decide +kernel

theorem test_ivpp_copy : ran (loaded [] ivx [1, 2] []) 0x00000032 = some (0x01, 0, [1, 2]) := by decide +kernel

/-! ## Base64 (spec/95 section 7) -/

theorem test_b64e : ran (withIn (hex 4 0x666f6f62)) 0x00000040 = some (0x01, 0, ascii "Zm9vYg==") := by decide +kernel

theorem test_b64e_high : ran (withIn [0xfb, 0xf0]) 0x00000040 = some (0x01, 0, ascii "+/A=") := by decide +kernel

theorem test_b64d : ran (withIn (ascii "Zm9=")) 0x00000041 = some (0x01, 0, [0x66, 0x6f]) := by decide +kernel

theorem test_b64d_bad :
    ran (withIn (ascii "Zg==Zg==")) 0x00000041 = some (0x03, 6, []) ∧ ran (withIn (ascii "a===")) 0x00000041 =
      some (0x03, 6, []) := by decide +kernel

/-! ## The facade (spec/95 sections 8 and 10) -/

/-- Program P2. -/
theorem test_aeseX :
    ran (loaded kf ivx t18 []) 0x00001150 =
      some (0x01, 0, hex 32 0xaf010848826a3d6290ba1b03f08b689361d3b1c28dabf65815949832b1e8d80f) := by decide +kernel

/-- Section 8.6: the padding step comes before the IV check. -/
theorem test_aeseX_order : ran (loaded kf (ivx.take 15) (ones 5) []) 0x00000150 =
      some (0x03, 3, []) := by decide +kernel

/-- Section 8.5: the draws in order. -/
theorem test_aeseF :
    ran (loaded kf [] (ones 5) drawA0) 0x00034150 =
      some (0x09, 0, hex 32 0xa0a1a2a3a4a5a6a7a8a9aaabacadaeaf3870736407055a9e0f1c9d643463e5f9) := by decide +kernel

/-- Section 8.5: a draw that is lost. -/
theorem test_aeseF_lost_draw :
    (nextOf (exec (.aeseF true .cbc .none) (loaded kf ivx (ones 5) drawA0))).map (fun t => (t.ivBuf, t.embed, t.draws, t.errCode.toNat)) =
      some (ivx, false, 16, 3) := by decide +kernel

theorem test_aeseXB64 : ran (loaded kf ivx [] []) 0x00040150 = some (0x01, 0, []) := by decide +kernel

/-- Program P3. -/
theorem test_aeseFB64 :
    ran (loaded kf [] (ascii "attack at dawn") drawA0) 0x00071450 =
      some (0x09, 0, ascii "oKGio6SlpqeoqaqrrK2ur73rdZwV01xse2uM5Hxl") := by decide +kernel

/-- Program P2. -/
theorem test_aesdX :
    ran (loaded kf ivx (hex 32 0xaf010848826a3d6290ba1b03f08b689361d3b1c28dabf65815949832b1e8d80f) []) 0x00001151 =
      some (0x01, 0, t18) := by decide +kernel

theorem test_aesdX_bad_padding :
    ran (loaded kf ivx (hex 32 0xaf010848826a3d6290ba1b03f08b689361d3b1c28dabf65815949832b1e8d80e) []) 0x00001151 =
      some (0x03, 4, []) := by decide +kernel

theorem test_aesdF :
    ran (loaded kf [] (hex 32 0xa0a1a2a3a4a5a6a7a8a9aaabacadaeaf3870736407055a9e0f1c9d643463e5f9) []) 0x00034151 =
      some (0x01, 0, ones 5) := by decide +kernel

theorem test_aesdF_missing : ran (loaded kf [] (zeros 10) []) 0x00031151 = some (0x03, 5, []) := by decide +kernel

theorem test_aesdXB64 : ran (loaded kf ivx (ascii "abc") []) 0x00041151 = some (0x03, 6, []) := by decide +kernel

/-- Program P3. -/
theorem test_aesdFB64 :
    ran (loaded kf [] (ascii "oKGio6SlpqeoqaqrrK2ur73rdZwV01xse2uM5Hxl") []) 0x00071451 =
      some (0x01, 0, ascii "attack at dawn") := by decide +kernel

/-- Section 8.6: a word that fails decode keeps the schedule. -/
theorem test_decode_keeps_schedule :
    ran (keyed kf [] []) 0x00000650 = some (0x07, 7, []) ∧ ran (keyed kf [] []) 0x00080050 =
      some (0x07, 9, []) := by decide +kernel

/-- Section 8.6. -/
theorem test_facade_failure_drops_schedule : ran (keyed kf [] (ones 5)) 0x00000150 =
      some (0x03, 3, []) := by decide +kernel

/-! ## Host transactions, host programs and assembler text -/

/-- R62. -/
theorem test_load_iv_clears_embed :
    (did { State.reset with embed := true } (.load .ivBuf ivx)).map (fun t => (t.embed, t.ivBuf)) =
      some (false, ivx) := by decide +kernel

/-- R62, R6. -/
theorem test_load_capacity :
    (did State.reset (.load .keyBuf (zeros 64))).map (·.keyBuf.length) = some 64 ∧
    (did State.reset (.load .keyBuf (zeros 65))).map (·.keyBuf.length) = some 0 := by decide +kernel

/-- R63. -/
theorem test_key_is_write_only :
    (did (loaded kf [] [] []) (.readBuf .keyBuf)).map (·.reply) = some .refused := by decide +kernel

/-- R64. -/
theorem test_register_none_above_six :
    (did (withIn (ones 3)) (.readReg 5)).map (·.reply) = some (.value 3) ∧
    (did State.reset (.readReg 7)).map (·.reply) = some .refused := by decide +kernel

/-- R91, spec/95 program P5 line N9. -/
theorem test_entry_point :
    entryPointTxns (.encryptFlag t18 kf false .cbc .pkcs7) =
      [.load .keyBuf kf, .load .inBuf t18, .cmd 0x00021150] := by decide

/-- R91: has_iv = true, CBC, PKCS7. -/
theorem test_entry_point_defaults :
    entryPointTxns (.decryptFlag t18 kf) = [.load .keyBuf kf, .load .inBuf t18, .cmd 0x00031151] := by decide

/-- R91. -/
theorem test_entry_point_result :
    (nextOf (exec .b64d (withIn (ascii "abc")))).map entryPointResult = some (.error 6) ∧
    (nextOf (exec .b64d (withIn (ascii "Zg==")))).map entryPointResult = some (.ok [0x66]) := by decide +kernel

/-- R91. -/
theorem test_feed : feed { State.reset with outBuf := [1, 2] } = [.readBuf .outBuf, .load .inBuf [1, 2]] := by decide

/-- R89. -/
theorem test_assembler_text :
    (asmOf (.aesdFB64 true .ctr .pkcs7)).text = "AESD.CTR.PKCS7 FLAG1, B64" ∧
    (asmOf .padIso7816_4).text = "PAD.ISO7816_4" ∧ (asmOf (.ivre .cbc .flag1)).text = "IVRE.CBC FLAG1" := by decide

/-- R89. -/
theorem test_assembler_defaults : (AsmLine.mk .aese none none (some .explicit) false).word = 0x00001150 := by decide

/-- R116. -/
theorem test_published_vector :
    encryptBlock (expandKey kf) pf = hex 16 0x8ea2b7ca516745bfeafc49904b496089 := by decide +kernel

/-! ## Witnesses: a state and operands that meet the hypotheses of each statement, clause by clause -/

theorem test_met_DecodeAndEncodeAreInverse : ∃ w i, decode w = .ok i := ⟨0x00071451, .aesdFB64 true .ctr .pkcs7, by decide⟩

theorem test_met_StepRunsTheDecodedCommand :
    ∃ (s : State) (w : Word) (rest : List HostTxn) (i : Instr) (t : State),
      s.pending = .cmd w :: rest ∧ decode w = .ok i ∧ exec i { s with pending := rest, cmd := w } = .next t :=
  ⟨{ keyed kf [] [] with pending := [.cmd 0x00000004] }, 0x00000004, [], .kclr, _, rfl, by decide, rfl⟩

/-- V10: with a bounded BUF_CAP of 15 bytes PAD.PKCS7 of one byte is refused, with one of 16 it is not. -/
theorem test_met_StepRunsTheDecodedCommand_capacity :
    (did { withIn [0x11] with params := { xtsK2 := [], bufCap := some 15 } } (.cmd 0x00001010)).map
      (fun t => (t.reply, t.done, t.outBuf.length)) = some (.refused, false, 0) ∧
    (did { withIn [0x11] with params := { xtsK2 := [], bufCap := some 16 } } (.cmd 0x00001010)).map
      (fun t => (t.reply, t.done, t.outBuf.length)) = some (.done, true, 16) := by decide +kernel

/-- Both kinds: 0x00000650 holds a reserved code, 0 is no command (spec/95 section 8.6, program P5 line N13). -/
theorem test_met_StepFailsUndecodableWord_codes :
    decode 0x00000650 = .error .unsupportedModeOption ∧ ran State.reset 0x00000650 = some (0x03, 7, []) ∧
    ran State.reset 0x00000000 = some (0x03, 9, []) := by decide +kernel

theorem test_met_StepFailsUndecodableWord :
    ∃ (s : State) (w : Word) (rest : List HostTxn) (k : ErrorKind), s.pending = .cmd w :: rest ∧ decode w = .error k :=
  ⟨{ State.reset with pending := [.cmd 0] }, 0, [], .illegalCommand, rfl, by decide⟩

theorem test_met_StepIdlesBetweenTransactions : State.reset.pending = [] := rfl

/-- Each buffer at its capacity and one byte above it. -/
theorem test_met_LoadReplacesTheBuffer :
    (∃ (s : State) (b : Bytes), s.pending = .load .keyBuf b :: [] ∧ b.length = 64) ∧
    (∃ (s : State) (b : Bytes), s.pending = .load .keyBuf b :: [] ∧ b.length = 65) ∧
    (∃ (s : State) (b : Bytes), s.pending = .load .ivBuf b :: [] ∧ b.length = 32) ∧
    (∃ (s : State) (b : Bytes), s.pending = .load .ivBuf b :: [] ∧ b.length = 33) ∧
    (∃ (s : State) (b : Bytes), s.pending = .load .inBuf b :: [] ∧ s.params.bufCap = some b.length) ∧
    (∃ (s : State) (b : Bytes), s.pending = .load .inBuf b :: [] ∧ s.params.bufCap = none) ∧
    (∃ (s : State) (b : Bytes), s.pending = .load .outBuf b :: []) :=
  ⟨⟨{ State.reset with pending := [.load .keyBuf (zeros 64)] }, zeros 64, rfl, rfl⟩,
    ⟨{ State.reset with pending := [.load .keyBuf (zeros 65)] }, zeros 65, rfl, rfl⟩,
    ⟨{ State.reset with pending := [.load .ivBuf (zeros 32)] }, zeros 32, rfl, rfl⟩,
    ⟨{ State.reset with pending := [.load .ivBuf (zeros 33)] }, zeros 33, rfl, rfl⟩,
    ⟨{ State.reset with pending := [.load .inBuf (ones 3)], params := { xtsK2 := [], bufCap := some 3 } }, ones 3,
      rfl, rfl⟩,
    ⟨{ State.reset with pending := [.load .inBuf (ones 3)] }, ones 3, rfl, rfl⟩,
    ⟨{ State.reset with pending := [.load .outBuf (ones 3)] }, ones 3, rfl⟩⟩

theorem test_met_ReadBufReturnsTheBuffer :
    ∀ b : Buffer, ∃ (s : State) (rest : List HostTxn), s.pending = .readBuf b :: rest :=
  fun b => ⟨{ State.reset with pending := [.readBuf b] }, [], rfl⟩

/-- Register 6, the last there is, and 7, the first there is not. -/
theorem test_met_ReadRegReturnsTheRegister :
    (did { State.reset with outBuf := [1] } (.readReg 6)).map (·.reply) = some (.value 1) ∧
    (did { State.reset with outBuf := [1] } (.readReg 7)).map (·.reply) = some .refused := by decide +kernel

theorem test_met_OnlyCmdIsWritable :
    (did State.reset (.writeReg 0 0x00000004)).map (fun t => (t.cmd, t.done)) = some (0x00000004, true) ∧
    (did State.reset (.writeReg 1 0x00000004)).map (fun t => (t.cmd, t.reply)) = some (0, .refused) := by decide +kernel

theorem test_met_ResetClearsEverything : ∃ (s : State) (rest : List HostTxn), s.pending = .reset :: rest :=
  ⟨{ keyed kf ivx t18 with pending := [.reset] }, [], rfl⟩

theorem test_met_KexpExpandsTheKey :
    (loaded kf [] [] []).keyBuf.length = 32 ∧ (loaded (kf.take 31) [] [] []).keyBuf.length ≠ 32 := by decide +kernel

theorem test_met_EncbAndDecbCryptOneBlock :
    ((keyed kf [] pf).ksValid = true ∧ (keyed kf [] pf).inBuf.length = 16) ∧ (withIn pf).ksValid = false ∧
    (keyed kf [] (ones 15)).ksValid = true ∧ (keyed kf [] (ones 15)).inBuf.length ≠ 16 := by decide +kernel

theorem test_met_PadAppendsThePadding :
    (16 = 16 - (withIn (ones 16)).inBuf.length % 16 ∧ (withIn (ones 16)).inBuf.length % 16 = 0) ∧
    (1 = 16 - (withIn (ones 15)).inBuf.length % 16 ∧ (withIn (ones 15)).inBuf.length % 16 ≠ 0) := by decide +kernel

/-- Each clause at the least and the greatest padding. -/
theorem test_met_UnpadRemovesThePadding :
    (ones 15 ++ List.replicate 1 (BitVec.ofNat 8 1) : Bytes).length % 16 = 0 ∧
    (([] : Bytes) ++ List.replicate 16 (BitVec.ofNat 8 16)).length % 16 = 0 ∧
    (([] : Bytes) ++ [0x80] ++ List.replicate 15 0x00).length % 16 = 0 ∧
    (ones 15 ++ [0x80] ++ List.replicate 0 0x00 : Bytes).length % 16 = 0 ∧
    (([] : Bytes) ++ List.replicate (16 - 1) 0x00 ++ [BitVec.ofNat 8 16]).length % 16 = 0 ∧
    (([] : Bytes) ++ ones 15 ++ [BitVec.ofNat 8 ((ones 15).length + 1)]).length % 16 = 0 ∧
    ((ones 15).getLast? ≠ some 0x00 ∧ (ones 15 ++ List.replicate 1 0x00 : Bytes).length % 16 = 0) ∧
    (([] : Bytes).getLast? ≠ some 0x00 ∧ (([] : Bytes) ++ List.replicate 16 0x00).length % 16 = 0) := by decide +kernel

theorem test_met_UnpadRejectsEverythingElse :
    (withIn (ones 15)).inBuf.length % 16 ≠ 0 ∧ (withIn []).inBuf.length % 16 = 0 ∧
    (¬∃ (d : Bytes) (n : Nat), 1 ≤ n ∧ n ≤ 16 ∧ (withIn []).inBuf = d ++ List.replicate n (BitVec.ofNat 8 n)) ∧
    (¬∃ (d : Bytes) (z : Nat), z ≤ 15 ∧ (withIn []).inBuf = d ++ [0x80] ++ List.replicate z 0x00) ∧
    (¬∃ (d : Bytes) (n : Nat), 1 ≤ n ∧ n ≤ 16 ∧
      (withIn []).inBuf = d ++ List.replicate (n - 1) 0x00 ++ [BitVec.ofNat 8 n]) ∧
    ¬∃ d fill : Bytes, fill.length ≤ 15 ∧ (withIn []).inBuf = d ++ fill ++ [BitVec.ofNat 8 (fill.length + 1)] := by
  refine ⟨by decide, by decide, ?_, ?_, ?_, ?_⟩
  · rintro ⟨d, n, h1, -, h⟩
    have := congrArg List.length h
    simp [withIn, State.reset] at this
    omega
  · rintro ⟨d, z, -, h⟩; simp [withIn, State.reset] at h
  · rintro ⟨d, n, -, -, h⟩; simp [withIn, State.reset] at h
  · rintro ⟨d, f, -, h⟩; simp [withIn, State.reset] at h

theorem test_met_UnpadInvertsPad :
    (([] : Bytes).length = padDraw .pkcs7 (ones 16).length ∧ alwaysAppends .pkcs7 = true ∧ (ones 16).length % 16 = 0) ∧
    ((ones 15).length = padDraw .iso10126 (ones 16).length ∧ alwaysAppends .iso10126 = true) ∧
    (([] : Bytes).length = padDraw .none (ones 15).length ∧ (ones 15).length % 16 ≠ 0) ∧
    padData .zero (ones 15) [] = .ok (ones 15 ++ [0x00]) := by decide +kernel

theorem legalIv_of_length (m : Mode) (iv : Bytes) (h : iv.length = 16) : legalIv m iv := fun _ => h

/-- Every mode, at its least and at a partial length where there is one. -/
theorem test_met_MencAndMdecRunTheMode :
    (∀ m, (keyed kn ivn []).ksValid = true ∧ legalIv m (keyed kn ivn []).ivBuf ∧
      legalLength m (keyed kn ivn []).inBuf.length) ∧
    legalIv .ecb (keyed kn [] pn16).ivBuf ∧ legalLength .ecb (keyed kn [] pn16).inBuf.length ∧
    legalLength .xts (keyed kn ivn pn17).inBuf.length ∧ legalLength .ofb (keyed kn ivn pn17).inBuf.length := by
  refine ⟨fun m => ⟨rfl, legalIv_of_length _ _ rfl, ?_⟩, fun h => absurd rfl h, rfl, .inr (by decide), trivial⟩
  cases m
  · rfl
  · rfl
  · trivial
  · trivial
  · trivial
  · exact .inl rfl

theorem test_met_ModeCommandsFailInOrder :
    (withIn pn16).ksValid = false ∧ ¬legalIv .cbc (keyed kn (ivn.take 15) pn16).ivBuf ∧
    (legalIv .cbc (keyed kn ivn pn17).ivBuf ∧ ¬legalLength .cbc (keyed kn ivn pn17).inBuf.length) ∧
    legalIv .xts (keyed kn ivn (ones 15)).ivBuf ∧ ¬legalLength .xts (keyed kn ivn (ones 15)).inBuf.length ∧
    (Instr.mdecXts = .mencOf .xts ∨ Instr.mdecXts = .mdecOf .xts) := by
  refine ⟨rfl, fun h => ?_, ⟨legalIv_of_length _ _ rfl, fun h => ?_⟩, legalIv_of_length _ _ rfl, fun h => ?_, .inr rfl⟩
  · exact absurd (h (by decide)) (by decide)
  · exact absurd (show 17 % 16 = 0 from h) (by decide)
  · rcases h with h | h
    · exact absurd h (by decide)
    · exact absurd h (by decide)

/-- A schedule, an IV and two blocks of data: the hypotheses of the block-by-block statements, the last block included. -/
theorem test_met_BlockModesBlockByBlock :
    (zeros 240).length = 240 ∧ ivn.length = 16 ∧ (ones 32).length % 16 = 0 ∧ 16 * 1 < (ones 32).length := by decide +kernel

/-- A short last block. -/
theorem test_met_StreamModesBlockByBlock :
    (zeros 240).length = 240 ∧ ivn.length = 16 ∧ 16 * 1 < (ones 17).length ∧ 16 * 0 < (ones 1).length := by decide +kernel

/-- XTS at 16 bytes (no partial block), 17 (the least) and 31 (the greatest partial block). -/
theorem test_met_XtsEncryptsBlockByBlock :
    ∀ n, n = 16 ∨ n = 17 ∨ n = 31 → ∃ (ks ks2 iv data : Bytes) (m b : Nat) (tweak : Nat → Bytes),
      ks.length = 240 ∧ ks2.length = 240 ∧ iv.length = 16 ∧ data.length = n ∧ 16 ≤ data.length ∧ m = data.length / 16 ∧
      b = data.length % 16 ∧ tweak 0 = encryptBlock ks2 iv ∧ ∀ j, tweak (j + 1) = mulAlpha (tweak j) := by
  intro n hn
  refine ⟨zeros 240, zeros 240, ivn, ones n, _, _, fun j => Nat.rec (encryptBlock (zeros 240) ivn) (fun _ => mulAlpha) j,
    by decide +kernel, by decide +kernel, rfl, by simp [ones], by simp [ones]; omega, rfl, rfl, rfl, fun _ => rfl⟩

/-- The hypotheses of decryption are those of encryption. -/
theorem test_met_XtsDecryptsBlockByBlock :
    ∃ (ks ks2 iv data : Bytes) (m b : Nat) (tweak : Nat → Bytes),
      ks.length = 240 ∧ ks2.length = 240 ∧ iv.length = 16 ∧ 16 ≤ data.length ∧ m = data.length / 16 ∧
      b = data.length % 16 ∧ b ≠ 0 ∧ tweak 0 = encryptBlock ks2 iv ∧ ∀ j, tweak (j + 1) = mulAlpha (tweak j) :=
  ⟨zeros 240, zeros 240, ivn, ones 17, 1, 1, fun j => Nat.rec (encryptBlock (zeros 240) ivn) (fun _ => mulAlpha) j,
    by decide +kernel, by decide +kernel, rfl, by decide, rfl, rfl, by decide, rfl, fun _ => rfl⟩

theorem test_met_CounterAndTweakStep : (hex 16 0xffffffffffffffffffffffffffffffff).length = 16 ∧ (hex 16 0).length = 16 := by
  decide +kernel

theorem test_met_EqualBlocksInEcbAndCbc :
    (zeros 240).length = 240 ∧ ivn.length = 16 ∧ (pn16 ++ pn16).length % 16 = 0 ∧ 16 * 0 < (pn16 ++ pn16).length ∧
    16 * 1 < (pn16 ++ pn16).length ∧ blockAt (pn16 ++ pn16) 0 = blockAt (pn16 ++ pn16) 1 ∧
    ∃ chain : Nat → Bytes, ∀ n, chain n =
      if n = 0 then ivn else blockAt (driveEncrypt .cbc (pn16 ++ pn16) (zeros 240) (zeros 240) ivn) (n - 1) :=
  ⟨by decide +kernel, by decide, by decide +kernel, by decide +kernel, by decide +kernel, by decide +kernel, _, fun _ => rfl⟩

theorem test_met_ModeDecryptInvertsModeEncrypt :
    (zeros 240).length = 240 ∧ ivn.length = 16 ∧ (∀ m, legalLength m (ones 0).length) ∧ (∀ m, legalLength m (ones 32).length) ∧
    legalLength .xts (ones 17).length ∧ legalLength .ctr (ones 17).length := by
  refine ⟨by decide +kernel, by decide, fun m => ?_, fun m => ?_, .inr (by decide), trivial⟩
  · cases m
    · rfl
    · rfl
    · trivial
    · trivial
    · trivial
    · exact .inl rfl
  · cases m
    · rfl
    · rfl
    · trivial
    · trivial
    · trivial
    · exact .inr (by decide)

theorem test_met_ModesKeepTheLength : legalLength .xts (ones 31).length ∧ legalLength .cbc (ones 48).length ∧
    (zeros 240).length = 240 ∧ ivn.length = 16 := ⟨.inr (by decide +kernel), rfl, by decide +kernel, by decide⟩

theorem test_met_StreamModesAreKeystreams :
    (zeros 240).length = 240 ∧ ivn.length = 16 ∧ streamMode .cfb = true ∧ streamMode .ofb = true ∧ streamMode .ctr = true := by
  decide +kernel

theorem test_met_EmbeddedIvIsRecovered :
    ∃ (s t u v : State) (m : Mode) (c : Bytes), m ≠ .ecb ∧ exec (.ivre m .flag1) s = .next t ∧
      exec .ivpp { t with inBuf := c } = .next u ∧ exec (.ivrd m .flag1) (fed u) = .next v ∧ v.errCode = 0 ∧ c = ones 1 := by
  refine ⟨loaded [] [] [] drawA0, _, _, _, .ctr, ones 1, by decide, rfl, rfl, rfl, ?_, rfl⟩
  decide +kernel

theorem test_met_Base64Commands :
    b64Decode (withIn (ascii "Zg==")).inBuf = .ok [0x66] ∧
    b64Decode (withIn (ascii "abc")).inBuf = .error .invalidBase64 := by decide +kernel

/-- A group of each size (spec/95 section 7.1). -/
theorem test_met_Base64RoundTrip :
    (∃ v : BitVec 24, v = (0x66 : Byte).setWidth 24 <<< 16) ∧ b64Encode [0x66] = ascii "Zg==" ∧
    (∃ v : BitVec 24, v = (0x66 : Byte).setWidth 24 <<< 16 ||| (0x6f : Byte).setWidth 24 <<< 8) ∧
    b64Encode [0x66, 0x6f] = ascii "Zm8=" ∧ b64Encode ([0xff, 0xff, 0xff] ++ [0x66]) = ascii "////Zg==" :=
  ⟨⟨_, rfl⟩, by decide +kernel, ⟨_, rfl⟩, by decide +kernel, by decide +kernel⟩

theorem test_met_Base64AlphabetIsABijection : b64Val 0x2F = some 63 ∧ b64Val 0x41 = some 0 := by decide

/-- AESE ends with each of its codes. -/
theorem test_met_AeseErrorOrder :
    codeOf (.aeseOf .cbc .none .explicit false) (loaded (kf.take 31) (ivx.take 15) (ones 5) []) = some 1 ∧
    codeOf (.aeseOf .cbc .none .explicit false) (loaded kf (ivx.take 15) (ones 5) []) = some 3 ∧
    codeOf (.aeseOf .cbc .pkcs7 .explicit true) (loaded kf (ivx.take 15) (ones 5) []) = some 2 ∧
    codeOf (.aeseOf .ctr .pkcs7 .flag0 false) (loaded kf ivx (ones 5) []) = some 2 ∧
    codeOf (.aeseOf .xts .none .explicit false) (loaded kf ivx (ones 15) []) = some 8 ∧
    codeOf (.aeseOf .xts .none .explicit false) (loaded kf ivx (ones 16) []) = some 0 := by decide +kernel

/-- The conditions of AESE, as one predicate for the witnesses. -/
def aeseReady (s : State) (m : Mode) (p : Scheme) (v : Policy) : Prop :=
  s.keyBuf.length = 32 ∧ (m ≠ .ecb → v = .flag1 ∨ v = .explicit ∧ s.ivBuf.length = 16) ∧
  (m = .ecb ∨ m = .cbc → p = .none → s.inBuf.length % 16 = 0) ∧
  (m = .xts → p = .none → s.inBuf = [] ∨ 16 ≤ s.inBuf.length)

/-- At their bounds: XTS with None on 0 and on 16 bytes, CBC with None on 16 bytes and a drawn IV, ECB without an IV. -/
theorem test_met_AeseEncrypts :
    aeseReady (loaded kf ivx [] []) .xts .none .explicit ∧ aeseReady (loaded kf ivx (ones 16) []) .xts .none .explicit ∧
    aeseReady (loaded kf [] (ones 16) drawA0) .cbc .none .flag1 ∧
    aeseReady (loaded kf [] (ones 5) drawA0) .ecb .iso10126 .flag0 ∧
    (decide (Mode.cbc ≠ .ecb) && decide (Policy.flag1 = .flag1)) = true := by
  refine ⟨?_, ?_, ?_, ?_, rfl⟩ <;> unfold aeseReady <;> decide +kernel

/-- AESD ends with each of its codes (spec/95 section 8.6). -/
theorem test_met_AesdErrorOrder :
    codeOf (.aesdOf .cbc .pkcs7 .flag1 true) (loaded (kf.take 31) [] (ascii "abc") []) = some 1 ∧
    codeOf (.aesdOf .cbc .pkcs7 .flag1 true) (loaded kf [] (ascii "abc") []) = some 6 ∧
    codeOf (.aesdOf .cbc .pkcs7 .flag1 true) (loaded kf [] (ascii "AAAA") []) = some 5 ∧
    codeOf (.aesdOf .cbc .pkcs7 .flag0 false) (loaded kf ivx (ones 16) []) = some 2 ∧
    codeOf (.aesdOf .cbc .pkcs7 .flag1 false) (loaded kf [] (ones 21) []) = some 3 ∧
    codeOf (.aesdOf .cbc .pkcs7 .flag1 false) (loaded kf [] (zeros 16) []) = some 4 ∧
    codeOf (.aesdOf .xts .pkcs7 .explicit false) (loaded kf ivx (ones 15) []) = some 8 ∧
    codeOf (.aesdOf .xts .pkcs7 .explicit false) (loaded kf ivx (ones 17) []) = some 3 ∧
    codeOf (.aesdOf .ctr .pkcs7 .explicit false) (loaded kf ivx (ones 5) []) = some 0 := by decide +kernel

/-- Program P2: the ciphertext of `T18` decrypts and its padding is right. -/
theorem test_met_AesdDecrypts :
    ∃ (s : State) (m : Mode) (p : Scheme) (v : Policy) (b64 : Bool) (d iv c x out : Bytes),
      s.keyBuf.length = 32 ∧ (if b64 then b64Decode s.inBuf else .ok s.inBuf) = .ok d ∧
      (if m ≠ .ecb ∧ v = .flag1 then 16 ≤ d.length ∧ iv = d.take 16 ∧ c = d.drop 16
        else c = d ∧ iv = if m ≠ .ecb ∧ v = .flag0 then [] else s.ivBuf) ∧
      (m ≠ .ecb → iv.length = 16) ∧ legalLength m c.length ∧
      x = driveDecrypt m c (expandKey s.keyBuf) (expandKey (xtsK2 s.params.xtsK2 s.keyBuf)) iv ∧
      (if padApplies m p then unpadData p x else .ok x) = .ok out ∧ out = t18 :=
  ⟨loaded kf ivx (hex 32 0xaf010848826a3d6290ba1b03f08b689361d3b1c28dabf65815949832b1e8d80f) [], .cbc, .pkcs7, .explicit,
    false, _, ivx, _, _, t18, by decide +kernel, rfl, ⟨rfl, rfl⟩, fun _ => by decide +kernel,
    (by decide +kernel : (hex 32 0xaf010848826a3d6290ba1b03f08b689361d3b1c28dabf65815949832b1e8d80f).length % 16 = 0), rfl,
    by decide +kernel, rfl⟩

/-- AESE succeeds on the state of program P2, and a second state has the same key, the result as its input and the same IV. -/
theorem test_met_FacadeRoundTrip :
    ∃ (s t s' : State) (m : Mode) (p : Scheme) (v : Policy) (b64 : Bool), exec (.aeseOf m p v b64) s = .next t ∧
      t.errCode = 0 ∧ s'.keyBuf = s.keyBuf ∧ s'.params = s.params ∧ s'.inBuf = t.outBuf ∧
      (v = .explicit → s'.ivBuf = s.ivBuf) ∧ ¬(p = .zero ∧ padApplies m p = true) ∧ s.inBuf = t18 := by
  obtain ⟨t, ht, hc⟩ := exists_of_codeOf (.aeseOf .cbc .pkcs7 .explicit false) (loaded kf ivx t18 []) 0 (by decide +kernel)
  exact ⟨_, t, loaded kf ivx t.outBuf [], .cbc, .pkcs7, .explicit, false, ht, BitVec.eq_of_toNat_eq hc, rfl, rfl, rfl,
    fun _ => rfl, by decide, rfl⟩

/-- ZERO padding of a text that ends in a zero byte. -/
theorem test_met_FacadeRoundTrip_zero :
    ∃ (s t : State), exec (.aeseOf .ecb .zero .explicit false) s = .next t ∧ t.errCode = 0 ∧
      padApplies .ecb .zero = true ∧ s.inBuf = [0x11, 0x00] := by
  obtain ⟨t, ht, hc⟩ :=
    exists_of_codeOf (.aeseOf .ecb .zero .explicit false) (loaded kf ivx [0x11, 0x00] []) 0 (by decide +kernel)
  exact ⟨_, t, ht, BitVec.eq_of_toNat_eq hc, rfl, rfl⟩

theorem test_met_AeseEqualsThePipeline :
    ∃ (s s1 s2 s3 s4 s5 s6 : State) (m : Mode) (p : Scheme) (v : Policy) (b64 : Bool),
      exec .kexp s = .next s1 ∧ s1.errCode = 0 ∧ exec (.ivre m v) s1 = .next s2 ∧
      (if padApplies m p then exec (.padOf p) s2 else .next (resultState s2 s2.inBuf)) = .next s3 ∧ s3.errCode = 0 ∧
      exec (.mencOf m) (fed s3) = .next s4 ∧ s4.errCode = 0 ∧ exec .ivpp (fed s4) = .next s5 ∧
      (if b64 then exec .b64e (fed s5) else .next s5) = .next s6 ∧ s.inBuf = ones 1 := by
  obtain ⟨s1, h1, c1⟩ := exists_of_codeOf .kexp (loaded kf ivx (ones 1) []) 0 (by decide +kernel)
  have hk := h1
  rw [show exec .kexp (loaded kf ivx (ones 1) []) =
    .next ((loaded kf ivx (ones 1) []).expandKeys.commit []) from rfl] at hk
  injection hk with hk
  subst hk
  refine ⟨_, _, _, _, _, _, _, .ctr, .pkcs7, .explicit, true, h1, rfl, rfl, rfl, rfl, rfl, rfl, rfl, rfl, rfl⟩

theorem test_met_FacadeDestroysTheSchedule :
    ∃ (i : Instr) (s t : State), isFacade i = true ∧ exec i s = .next t ∧ s.ksValid = true ∧ t.errCode.toNat = 3 := by
  obtain ⟨t, ht, hc⟩ := exists_of_codeOf (.aeseX .cbc .none) (keyed kf ivx (ones 5)) 3 (by decide +kernel)
  exact ⟨_, _, t, rfl, ht, rfl, hc⟩

/-- Two states with the same inputs that differ elsewhere. -/
theorem test_met_FacadeIsAFunctionOfItsInputs :
    ∃ (i : Instr) (s s' t t' : State), isFacade i = true ∧ s ≠ s' ∧ s.keyBuf = s'.keyBuf ∧ s.ivBuf = s'.ivBuf ∧
      s.inBuf = s'.inBuf ∧ s.params = s'.params ∧ s.entropy = s'.entropy ∧ s.draws = s'.draws ∧ exec i s = .next t ∧
      exec i s' = .next t' := by
  obtain ⟨t, ht, -⟩ := exists_of_codeOf (.aeseX .ctr .none) (loaded kf ivx (ones 5) []) 0 (by decide +kernel)
  obtain ⟨t', ht', -⟩ :=
    exists_of_codeOf (.aeseX .ctr .none) { loaded kf ivx (ones 5) [] with outBuf := [1] } 0 (by decide +kernel)
  exact ⟨.aeseX .ctr .none, loaded kf ivx (ones 5) [], { loaded kf ivx (ones 5) [] with outBuf := [1] }, t, t', rfl,
    fun h => absurd (congrArg State.outBuf h) (by decide), rfl, rfl, rfl, rfl, rfl, rfl, ht, ht'⟩

theorem test_met_FailureNeverDependsOnADraw :
    ∃ (i : Instr) (s t t' : State) (bytes : Bytes) (n : Nat), exec i s = .next t ∧
      exec i { s with entropy := bytes, draws := n } = .next t' ∧ t.outBuf ≠ t'.outBuf :=
  ⟨.padIso10126, loaded [] [] (ones 5) drawA0, _, _, zeros 10, 7, rfl, rfl, by decide +kernel⟩

theorem test_met_FailedCommandChangesNothingElse :
    ∃ (i : Instr) (s t : State), exec i s = .next t ∧ t.errCode ≠ 0 :=
  ⟨.kexp, State.reset, _, rfl, by decide⟩

theorem test_met_ResultOnlyCommandsFrame :
    ∃ (i : Instr) (s t : State), exec i s = .next t ∧ writesResultOnly i = true := ⟨.b64e, withIn (ones 2), _, rfl, rfl⟩

theorem test_met_ResultOnlyCommandsFrame_draw :
    ∃ (s t : State), exec .padIso10126 s = .next t ∧ t.draws ≠ s.draws := ⟨withIn (ones 2), _, rfl, by decide +kernel⟩

theorem test_met_WritersOfEachElement :
    ∃ (s t : State), exec (.ivre .cbc .flag1) s = .next t ∧ t.embed ≠ s.embed ∧ t.draws ≠ s.draws :=
  ⟨State.reset, _, rfl, by decide +kernel, by decide +kernel⟩

theorem test_met_WritersOfEachElement_schedule : ∃ (s t : State), exec .kclr s = .next t ∧ t.ksValid ≠ s.ksValid :=
  ⟨keyed kf [] [], _, rfl, by decide +kernel⟩

theorem test_met_BlockCipherInverse : (expandKey kf).length = 240 ∧ pf.length = 16 := by decide +kernel

/-- The states between the rounds, of any schedule and block. -/
theorem test_met_BlockCipherInverse_encryptRounds :
    ∃ s : Nat → Bytes, s 0 = addRoundKey pf (expandKey kf) 0 ∧
      ∀ r, 1 ≤ r → r ≤ 13 → s r = addRoundKey (mixColumns (shiftRows (subBytes (s (r - 1))))) (expandKey kf) r :=
  ⟨fun n => Nat.rec (addRoundKey pf (expandKey kf) 0)
      (fun n x => addRoundKey (mixColumns (shiftRows (subBytes x))) (expandKey kf) (n + 1)) n, rfl,
    fun r h _ => by obtain ⟨n, rfl⟩ : ∃ n, r = n + 1 := ⟨r - 1, by omega⟩; rfl⟩

/-- The same from round 14 down. -/
theorem test_met_BlockCipherInverse_decryptRounds :
    ∃ s : Nat → Bytes, s 14 = addRoundKey pf (expandKey kf) 14 ∧
      ∀ r, 1 ≤ r → r ≤ 13 → s r = invMixColumns (addRoundKey (invSubBytes (invShiftRows (s (r + 1)))) (expandKey kf) r) := by
  refine ⟨fun n => Nat.rec (addRoundKey pf (expandKey kf) 14)
      (fun n x => invMixColumns (addRoundKey (invSubBytes (invShiftRows x)) (expandKey kf) (13 - n))) (14 - n), rfl,
    fun r _ h => ?_⟩
  obtain ⟨n, hn, rfl⟩ : ∃ n, n ≤ 12 ∧ r = 13 - n := ⟨13 - r, by omega, by omega⟩
  have h1 : 14 - (13 - n) = n + 1 := by omega
  have h2 : 14 - (13 - n + 1) = n := by omega
  simp only [h1, h2]

theorem test_met_FieldProductAndInverse : (0x53 : Byte) ≠ 0 ∧ gmul 0x53 0xca = 1 := by decide +kernel

/-- The last byte, column and round key. -/
theorem test_met_RoundStagesInvert :
    ivn.length = 16 ∧ 15 < 16 ∧ (3 < 4 ∧ memRead ivn (4 * 3) 4 = [0x0c, 0x0d, 0x0e, 0x0f]) ∧
    (expandKey kf).length = 240 ∧ 14 ≤ 14 := by decide +kernel

theorem test_met_KeyScheduleRecurrence :
    ∃ (key : Bytes) (w : Nat → Bytes), key.length = 32 ∧ ∀ i, w i = memRead (expandKey key) (4 * i) 4 :=
  ⟨kf, fun i => memRead (expandKey kf) (4 * i) 4, by decide +kernel, fun _ => rfl⟩

/-- A state that meets the invariant, with a schedule, an embedded IV and a command to come. -/
theorem test_met_StepKeepsTheInvariant :
    ∃ (s t : State), Inv s ∧ step s = .next t ∧ s.ksValid = true ∧ s.embed = true ∧ s.pending = [.cmd 0x00000032] :=
  ⟨{ keyed kf ivx (ones 1) with embed := true, pending := [.cmd 0x00000032] }, _,
    ⟨by decide +kernel, ⟨kf, by decide +kernel, rfl, rfl⟩, fun _ => by decide +kernel, ⟨by decide, fun h => absurd rfl h⟩, rfl,
      fun h => absurd h (by decide)⟩, rfl, rfl, rfl, rfl⟩

end Sys2Proof.Tests
end

/-! SUPPORT. What every command keeps, said once: the outcome of `exec` in terms of the instruction's rule, the states in which
the two facade rules can stop, and the part of the invariant that a rule takes and gives. -/

namespace Sys2Proof.Machine

/-! ## What a command can do -/

/-- A command answers the commit of its rule's result, or the error its rule raised (R87 steps 4 and 5). -/
theorem exec_next {i : Instr} {s t : State} (h : exec i s = .next t) :
    (∃ u res, ruleOf i s = (u, .ok res) ∧ t = u.commit res) ∨
      ∃ u k, ruleOf i s = (u, .error k) ∧ t = s.takeError (isFacade i) k u := by
  rw [exec_eq_runCommand] at h
  exact runCommand_next _ _ _ _ h

/-- What a field that the wrapper leaves alone, and an error of this command restores, holds after the command: what the
command's rule left in it, or what it held before. -/
theorem exec_next_field {α : Type} (field : State → α) {i : Instr} {s t : State} (h : exec i s = .next t)
    (hc : ∀ u res, field (State.commit u res) = field u)
    (he : ∀ k u, field (s.takeError (isFacade i) k u) = field s) (hr : field (ruleOf i s).1 = field s) :
    field t = field s := by
  obtain ⟨u, res, hu, rfl⟩ | ⟨u, k, -, rfl⟩ := exec_next h
  · rw [hc, ← hr, hu]
  · exact he k u

/-- After a command the random source is as the command's rule left it: a failing command's draws are lost (R215). -/
theorem exec_next_source {i : Instr} {s t : State} (h : exec i s = .next t) :
    t.draws = (ruleOf i s).1.draws ∧ t.entropy = (ruleOf i s).1.entropy := by
  obtain ⟨u, res, hu, rfl⟩ | ⟨u, k, hu, rfl⟩ := exec_next h <;> simp [hu]

/-- What every command does to the fields that no rule writes (R20, R87). -/
theorem exec_next_frame {i : Instr} {s t : State} (h : exec i s = .next t) :
    t.done = true ∧ t.errCode.toNat ≤ 10 ∧ t.scratch = Scratch.zero ∧ t.keyBuf = s.keyBuf ∧ t.inBuf = s.inBuf ∧
      t.cmd = s.cmd ∧ t.params = s.params ∧ t.pending = s.pending ∧ t.reply = s.reply := by
  obtain ⟨u, res, hu, rfl⟩ | ⟨u, k, hu, rfl⟩ := exec_next h
  · have hf : RuleFrame s u := by simpa [hu] using ruleOf_frame i s
    simp [hf.keyBuf, hf.inBuf, hf.cmd, hf.params, hf.pending, hf.reply]
  · simp [(errorCode_range k).2]

/-! ## Where the composed rules stop -/

theorem ruleOf_aesdOf (m : Mode) (p : Scheme) (v : Policy) (b : Bool) : ruleOf (.aesdOf m p v b) = aesdRule m p v b := by
  cases v <;> cases b <;> rfl

/-- Where padding applies or not, the state changes by a draw only (R145, R211 step 3). -/
theorem padWhereApplies_drawn (m : Mode) (p : Scheme) (d : Bytes) (s : State) :
    ∃ n, (padWhereApplies m p d s).1 = s.drawn n := by
  unfold padWhereApplies
  split
  · exact ⟨padDraw p d.length, rfl⟩
  · exact ⟨0, rfl⟩

/-- The states in which AESE's rule stops (R211): untouched for a wrong key length, else with the keys expanded, the IV
resolved and the padding drawn, the schedule destroyed unless padding failed. -/
theorem aeseRule_state (m : Mode) (p : Scheme) (v : Policy) (b : Bool) (s : State) :
    (aeseRule m p v b s).1 = s ∨
      (s.keyBuf.length = Config.keyBytes ∧ ∃ n,
        (aeseRule m p v b s).1 = (resolveIvEnc m v s.expandKeys).drawn n ∨
        (aeseRule m p v b s).1 = ((resolveIvEnc m v s.expandKeys).drawn n).destroySchedule) := by
  obtain ⟨n, hn⟩ := padWhereApplies_drawn m p (resolveIvEnc m v s.expandKeys).inBuf (resolveIvEnc m v s.expandKeys)
  by_cases hk : s.keyBuf.length = Config.keyBytes
  · refine .inr ⟨hk, n, ?_⟩
    simp only [aeseRule, hk, ne_eq, not_true_eq_false, if_false]
    split
    · next u k hu => exact .inl (by rw [← hn, hu])
    · next u d hu => exact .inr (by rw [← hn, hu])
  · exact .inl (by simp [aeseRule, hk])

/-- The states in which AESD's rule stops (R212): untouched for a wrong key length, else with the keys expanded, and unless
the text was no Base64 with the IV resolved, and unless that failed with the schedule destroyed. -/
theorem aesdRule_state (m : Mode) (p : Scheme) (v : Policy) (b : Bool) (s : State) :
    (aesdRule m p v b s).1 = s ∨
      (s.keyBuf.length = Config.keyBytes ∧
        ((aesdRule m p v b s).1 = s.expandKeys ∨ ∃ d,
          (aesdRule m p v b s).1 = (resolveIvDec m v d s.expandKeys).1 ∨
          (aesdRule m p v b s).1 = (resolveIvDec m v d s.expandKeys).1.destroySchedule)) := by
  by_cases hk : s.keyBuf.length = Config.keyBytes
  · refine .inr ⟨hk, ?_⟩
    simp only [aesdRule, hk, ne_eq, not_true_eq_false, if_false]
    split
    · exact .inl rfl
    · next d _ =>
      refine .inr ⟨d, ?_⟩
      split
      · next t k ht => exact .inl (by rw [ht])
      · next t rest ht => exact .inr (by rw [ht])
  · exact .inl (by simp [aesdRule, hk])

/-! ## Who writes what -/

/-- Only IVRE, IVRD and the facade rules write IVBUF and EMBED (R20, R32). -/
theorem ruleOf_keeps_iv (i : Instr) (s : State) (hf : isFacade i = false) (he : ∀ m v, i ≠ .ivre m v)
    (hd : ∀ m v, i ≠ .ivrd m v) : (ruleOf i s).1.ivBuf = s.ivBuf ∧ (ruleOf i s).1.embed = s.embed := by
  cases i with
  | ivre m v => exact absurd rfl (he m v)
  | ivrd m v => exact absurd rfl (hd m v)
  | aeseX | aeseF | aeseXB64 | aeseFB64 | aesdX | aesdF | aesdXB64 | aesdFB64 => simp [isFacade] at hf
  | kexp => simp only [ruleOf, kexpRule]; split <;> exact ⟨rfl, rfl⟩
  | _ => exact ⟨rfl, rfl⟩

/-- ResolveIvEnc leaves the schedule alone (R191). -/
theorem resolveIvEnc_schedule (m : Mode) (v : Policy) (s : State) :
    (resolveIvEnc m v s).ks = s.ks ∧ (resolveIvEnc m v s).ks2 = s.ks2 ∧ (resolveIvEnc m v s).ksValid = s.ksValid := by
  unfold resolveIvEnc
  cases needsIv m <;> cases v <;> exact ⟨rfl, rfl, rfl⟩

/-- Only FLAG1 draws an IV (R191). -/
theorem resolveIvEnc_source (m : Mode) (v : Policy) (s : State) (hv : v ≠ .flag1) :
    (resolveIvEnc m v s).draws = s.draws ∧ (resolveIvEnc m v s).entropy = s.entropy := by
  unfold resolveIvEnc
  cases v with
  | flag1 => exact absurd rfl hv
  | explicit | flag0 => cases needsIv m <;> exact ⟨rfl, rfl⟩

/-- ResolveIvDec does nothing when it raises, else it writes IVBUF and clears EMBED (R192). -/
theorem resolveIvDec_state (m : Mode) (v : Policy) (d : Bytes) (s : State) :
    (resolveIvDec m v d s).1 = s ∨ ∃ iv, (resolveIvDec m v d s).1 = { s with ivBuf := iv, embed := false } := by
  unfold resolveIvDec
  split
  · cases v with
    | explicit => exact .inr ⟨s.ivBuf, rfl⟩
    | flag0 => exact .inr ⟨[], rfl⟩
    | flag1 =>
      dsimp only
      split
      · exact .inl rfl
      · exact .inr ⟨_, rfl⟩
  · exact .inr ⟨s.ivBuf, rfl⟩

/-- Only KEXP, KCLR and the facade rules write the schedule (R38). -/
theorem ruleOf_keeps_schedule (i : Instr) (s : State) (hf : isFacade i = false) (hk : i ≠ .kexp) (hc : i ≠ .kclr) :
    (ruleOf i s).1.ks = s.ks ∧ (ruleOf i s).1.ks2 = s.ks2 ∧ (ruleOf i s).1.ksValid = s.ksValid := by
  cases i with
  | kexp => exact absurd rfl hk
  | kclr => exact absurd rfl hc
  | aeseX | aeseF | aeseXB64 | aeseFB64 | aesdX | aesdF | aesdXB64 | aesdFB64 => simp [isFacade] at hf
  | ivre m v => exact resolveIvEnc_schedule m v s
  | ivrd m v => obtain h | ⟨iv, h⟩ := resolveIvDec_state m v s.inBuf s <;> simp [ruleOf, ivrdRule, h]
  | _ => exact ⟨rfl, rfl, rfl⟩

/-- AESD takes no draw (R212, R216). -/
theorem aesdRule_source (m : Mode) (p : Scheme) (v : Policy) (b : Bool) (s : State) :
    (aesdRule m p v b s).1.draws = s.draws ∧ (aesdRule m p v b s).1.entropy = s.entropy := by
  have hd (d : Bytes) : (resolveIvDec m v d s.expandKeys).1.draws = s.draws ∧
      (resolveIvDec m v d s.expandKeys).1.entropy = s.entropy := by
    obtain h | ⟨iv, h⟩ := resolveIvDec_state m v d s.expandKeys <;> simp [h]
  obtain h | ⟨-, h | ⟨d, h | h⟩⟩ := aesdRule_state m p v b s <;> simp [h, hd]

/-- Only IVRE with FLAG1, PAD.ISO10126 and AESE's rule read the random source (R16, R216). -/
theorem ruleOf_keeps_source (i : Instr) (s : State) (hv : ∀ m, i ≠ .ivre m .flag1) (hp : i ≠ .padIso10126)
    (ha : ∀ m p v b, i ≠ .aeseOf m p v b) :
    (ruleOf i s).1.draws = s.draws ∧ (ruleOf i s).1.entropy = s.entropy := by
  by_cases hf : isFacade i = true
  · obtain ⟨m, p, v, b, rfl | rfl⟩ := isFacade_cases i hf
    · exact absurd rfl (ha m p v b)
    · rw [ruleOf_aesdOf]; exact aesdRule_source m p v b s
  · cases i with
    | padIso10126 => exact absurd rfl hp
    | aeseX | aeseF | aeseXB64 | aeseFB64 | aesdX | aesdF | aesdXB64 | aesdFB64 => simp [isFacade] at hf
    | kexp => simp only [ruleOf, kexpRule]; split <;> exact ⟨rfl, rfl⟩
    | ivre m v => exact resolveIvEnc_source m v s fun h => hv m (h ▸ rfl)
    | ivrd m v => obtain h | ⟨iv, h⟩ := resolveIvDec_state m v s.inBuf s <;> simp [ruleOf, ivrdRule, h]
    | _ => exact ⟨rfl, rfl⟩

end Sys2Proof.Machine

/-! SUPPORT. The invariant through a command and through each transaction. While a rule runs, only the part `RuleInv` of the
invariant is needed and kept; the wrapper supplies the rest, for it writes ERRCODE, DONE, OUTBUF and scratch in every case. -/

namespace Sys2Proof.Machine

/-! ## The part of the invariant that a rule keeps -/

/-- What of the invariant a command's rule finds and leaves: the buffers, the schedule and the IV. CMD already holds the word
while DONE may still be 0, so `FreshOk` is not part of it. -/
structure RuleInv (s : State) : Prop where
  memory : Memory.wf s = true
  schedule : ScheduleOk s
  embed : EmbedOk s

theorem drawn_ruleInv {s : State} (n : Nat) (h : RuleInv s) : RuleInv (s.drawn n) := ⟨h.memory, h.schedule, h.embed⟩

theorem destroySchedule_ruleInv {s : State} (h : RuleInv s) : RuleInv s.destroySchedule :=
  ⟨h.memory, ⟨rfl, rfl⟩, h.embed⟩

theorem expandKeys_ruleInv {s : State} (hk : s.keyBuf.length = Config.keyBytes) (h : RuleInv s) :
    RuleInv s.expandKeys :=
  ⟨h.memory, ⟨s.keyBuf, hk, rfl, rfl⟩, h.embed⟩

theorem resolveIvEnc_ruleInv {s : State} (m : Mode) (v : Policy) (h : RuleInv s) : RuleInv (resolveIvEnc m v s) where
  memory := resolveIvEnc_wf m v s h.memory
  schedule := by
    have hs := h.schedule
    unfold resolveIvEnc
    cases needsIv m <;> cases v <;> exact hs
  embed := by
    unfold resolveIvEnc
    cases needsIv m <;> cases v <;> simp [EmbedOk]

theorem resolveIvDec_ruleInv {s : State} (m : Mode) (v : Policy) (d : Bytes) (h : RuleInv s) :
    RuleInv (resolveIvDec m v d s).1 where
  memory := resolveIvDec_wf m v d s h.memory
  schedule := by
    obtain hr | ⟨iv, hr⟩ := resolveIvDec_state m v d s <;> rw [hr] <;> exact h.schedule
  embed := by
    obtain hr | ⟨iv, hr⟩ := resolveIvDec_state m v d s <;> rw [hr]
    · exact h.embed
    · exact fun he => absurd he Bool.false_ne_true

theorem aeseRule_ruleInv {s : State} (m : Mode) (p : Scheme) (v : Policy) (b : Bool) (h : RuleInv s) :
    RuleInv (aeseRule m p v b s).1 := by
  obtain hr | ⟨hk, n, hr | hr⟩ := aeseRule_state m p v b s <;> rw [hr]
  · exact h
  · exact drawn_ruleInv n (resolveIvEnc_ruleInv m v (expandKeys_ruleInv hk h))
  · exact destroySchedule_ruleInv (drawn_ruleInv n (resolveIvEnc_ruleInv m v (expandKeys_ruleInv hk h)))

theorem aesdRule_ruleInv {s : State} (m : Mode) (p : Scheme) (v : Policy) (b : Bool) (h : RuleInv s) :
    RuleInv (aesdRule m p v b s).1 := by
  obtain hr | ⟨hk, hr | ⟨d, hr | hr⟩⟩ := aesdRule_state m p v b s <;> rw [hr]
  · exact h
  · exact expandKeys_ruleInv hk h
  · exact resolveIvDec_ruleInv m v d (expandKeys_ruleInv hk h)
  · exact destroySchedule_ruleInv (resolveIvDec_ruleInv m v d (expandKeys_ruleInv hk h))

theorem kexpRule_ruleInv {s : State} (h : RuleInv s) : RuleInv (kexpRule s).1 := by
  unfold kexpRule
  split
  · exact h
  · next hk => exact expandKeys_ruleInv (not_not.mp hk) h

/-- Every rule keeps its part of the invariant, whether it succeeds or raises. -/
theorem ruleOf_ruleInv {s : State} (i : Instr) (h : RuleInv s) : RuleInv (ruleOf i s).1 := by
  cases i with
  | kexp => exact kexpRule_ruleInv h
  | kclr => exact destroySchedule_ruleInv h
  | ivre m v => exact resolveIvEnc_ruleInv m v h
  | ivrd m v => exact resolveIvDec_ruleInv m v s.inBuf h
  | padNone | padPkcs7 | padIso7816_4 | padAnsi923 | padIso10126 | padZero => exact drawn_ruleInv _ h
  | aeseX | aeseF | aeseXB64 | aeseFB64 => exact aeseRule_ruleInv _ _ _ _ h
  | aesdX | aesdF | aesdXB64 | aesdFB64 => exact aesdRule_ruleInv _ _ _ _ h
  | _ => exact h

/-! ## The wrapper supplies the rest -/

theorem commit_inv {s : State} {res : Bytes} (h : RuleInv s) (hf : fits res.length s.params.bufCap = true) :
    Inv (s.commit res) where
  memory := commit_wf s res h.memory hf
  schedule := h.schedule
  embed := h.embed
  error := by simp [ErrorOk]
  scratch := rfl
  fresh := by simp [FreshOk]

theorem takeError_inv {s : State} (f : Bool) (k : ErrorKind) (u : State) (h : RuleInv s) :
    Inv (s.takeError f k u) where
  memory := takeError_wf s f k u h.memory
  schedule := by
    cases f with
    | false => exact h.schedule
    | true => exact ⟨rfl, rfl⟩
  embed := by cases f <;> exact h.embed
  error := by simp [ErrorOk, (errorCode_range k).2]
  scratch := by simp [ScratchOk]
  fresh := by simp [FreshOk]

/-- A command whose result fits OUTBUF leaves the whole invariant. -/
theorem exec_inv {i : Instr} {s t : State} (h : RuleInv s) (he : exec i s = .next t)
    (hf : fits t.outBuf.length t.params.bufCap = true) : Inv t := by
  obtain ⟨u, res, hu, rfl⟩ | ⟨u, k, -, rfl⟩ := exec_next he
  · have hr : RuleInv u := by simpa [hu] using ruleOf_ruleInv i h
    exact commit_inv hr hf
  · exact takeError_inv _ k u h

/-! ## The transactions -/

/-- The next pending transaction is the step (R61). -/
theorem step_of_pending {s : State} {x : HostTxn} {rest : List HostTxn} (h : s.pending = x :: rest) :
    step s = transact x { s with pending := rest } := by
  unfold step hostStep
  rw [h]

theorem executeWord_of_ok {w : Word} {i : Instr} (s : State) (h : decode w = .ok i) :
    executeWord w s = exec i { s with cmd := w } := by
  unfold executeWord
  rw [h]

theorem executeWord_of_error {w : Word} {k : ErrorKind} (s : State) (h : decode w = .error k) :
    executeWord w s = .next (State.takeError { s with cmd := w } false k { s with cmd := w }) := by
  unfold executeWord
  rw [h]

/-- H_CMD commits the word's execution, or refuses when the result does not fit (R65, V10). -/
theorem hostCmd_of_next {w : Word} {s t : State} (h : executeWord w s = .next t) :
    hostCmd w s =
      .next (if fits t.outBuf.length (t.capacity .outBuf) then t.answer .done else s.answer .refused) := by
  unfold hostCmd
  rw [h]

/-- Executing a word answers a next state: the instruction's, or the error of a word that fails decode. -/
theorem executeWord_next (w : Word) (s : State) :
    ∃ t, executeWord w s = .next t ∧ ((∃ i, exec i { s with cmd := w } = .next t) ∨
      ∃ k, t = State.takeError { s with cmd := w } false k { s with cmd := w }) := by
  cases hd : decode w with
  | ok i =>
    obtain ⟨t, ht⟩ := runCommand_completes (isFacade i) (ruleOf i) { s with cmd := w }
    rw [← exec_eq_runCommand] at ht
    exact ⟨t, (executeWord_of_ok s hd).trans ht, .inl ⟨i, ht⟩⟩
  | error k => exact ⟨_, executeWord_of_error s hd, .inr ⟨k, rfl⟩⟩

theorem answer_inv {s : State} (r : HostReply) (h : Inv s) : Inv (s.answer r) :=
  ⟨h.memory, h.schedule, h.embed, h.error, h.scratch, h.fresh⟩

/-- A buffer the host may load, loaded within its capacity: IVBUF's load clears EMBED (R62). -/
theorem setBuffer_inv {s : State} {b : Buffer} {bytes : Bytes} (h : Inv s) (hb : b ≠ .outBuf)
    (hm : Memory.wf (s.setBuffer b bytes) = true) : Inv (s.setBuffer b bytes) := by
  cases b with
  | outBuf => exact absurd rfl hb
  | keyBuf | inBuf => exact ⟨hm, h.schedule, h.embed, h.error, h.scratch, h.fresh⟩
  | ivBuf =>
    refine ⟨hm, h.schedule, by simp [EmbedOk], h.error, h.scratch, fun hd => ?_⟩
    obtain ⟨hc, he, ho, hk, -⟩ := h.fresh hd
    exact ⟨hc, he, ho, hk, rfl⟩

/-- A load is refused, or it sets a buffer other than OUTBUF (R62). -/
theorem hostLoad_cases (b : Buffer) (bytes : Bytes) (s : State) :
    hostLoad b bytes s = s.answer .refused ∨
      (b ≠ .outBuf ∧ hostLoad b bytes s = (s.setBuffer b bytes).answer .done) := by
  cases b with
  | outBuf => exact .inl rfl
  | keyBuf | ivBuf | inBuf =>
    simp only [hostLoad]
    split
    · exact .inr ⟨by decide, rfl⟩
    · exact .inl rfl

theorem hostLoad_inv {s : State} (b : Buffer) (bytes : Bytes) (h : Inv s) : Inv (hostLoad b bytes s) := by
  have hm := hostLoad_wf b bytes s h.memory
  obtain hl | ⟨hb, hl⟩ := hostLoad_cases b bytes s <;> rw [hl] at hm ⊢
  · exact answer_inv _ h
  · exact answer_inv _ (setBuffer_inv h hb hm)

theorem hostReadBuf_inv {s : State} (b : Buffer) (h : Inv s) : Inv (hostReadBuf b s) := by
  cases b <;> exact answer_inv _ h

theorem hostReadReg_inv {s : State} (n : Nat) (h : Inv s) : Inv (hostReadReg n s) := by
  unfold hostReadReg
  split <;> exact answer_inv _ h

/-- Reset gives the invariant from every state (R42). -/
theorem hostReset_inv (s : State) : Inv (hostReset s) where
  memory := hostReset_wf s
  schedule := ⟨rfl, rfl⟩
  embed := by simp [EmbedOk]
  error := by simp [ErrorOk]
  scratch := rfl
  fresh := by simp [FreshOk]

theorem hostCmd_inv {w : Word} {s t : State} (h : Inv s) (ht : hostCmd w s = .next t) : Inv t := by
  obtain ⟨u, hu, hx⟩ := executeWord_next w s
  have hr : RuleInv { s with cmd := w } := ⟨h.memory, h.schedule, h.embed⟩
  rw [hostCmd_of_next hu] at ht
  obtain rfl := Host.Outcome.next.inj ht
  split
  · next hf =>
    refine answer_inv _ ?_
    obtain ⟨i, hi⟩ | ⟨k, rfl⟩ := hx
    · exact exec_inv hr hi hf
    · exact takeError_inv _ k _ hr
  · exact answer_inv _ h

/-- Every transaction keeps the invariant. -/
theorem transact_inv {x : HostTxn} {s t : State} (h : Inv s) (ht : transact x s = .next t) : Inv t := by
  cases x with
  | cmd w => exact hostCmd_inv h ht
  | writeReg n w =>
    cases n with
    | zero => exact hostCmd_inv h ht
    | succ n => obtain rfl := Host.Outcome.next.inj ht; exact answer_inv _ h
  | load b bytes => obtain rfl := Host.Outcome.next.inj ht; exact hostLoad_inv b bytes h
  | readBuf b => obtain rfl := Host.Outcome.next.inj ht; exact hostReadBuf_inv b h
  | readReg n => obtain rfl := Host.Outcome.next.inj ht; exact hostReadReg_inv n h
  | reset => obtain rfl := Host.Outcome.next.inj ht; exact hostReset_inv s

/-! ## STATUS -/

/-- A flag at a bit position below 32 is that bit, and no other (R29). -/
theorem flagAt_getLsbD (flag : Bool) (bit n : Nat) (h : bit < 32) :
    (flagAt flag bit).getLsbD n = (flag && decide (n = bit)) := by
  cases flag with
  | false => simp [flagAt]
  | true =>
    rw [flagAt, if_pos rfl, BitVec.getLsbD_ofNat, Nat.testBit_two_pow]
    by_cases hn : n = bit
    · simp [hn, h]
    · simp [hn, Ne.symm hn]

/-- Bit `n` of STATUS (R29): BUSY, always 0, drops out (R33). -/
theorem status_getLsbD (s : State) (n : Nat) :
    s.status.getLsbD n =
      (s.done && decide (n = 0) || s.err && decide (n = 1) || s.ksValid && decide (n = 2) ||
        s.embed && decide (n = 3)) := by
  simp [State.status, State.busy, flagAt_getLsbD]

end Sys2Proof.Machine

/-! SUPPORT. The statements on the state, the step and what every command keeps, settled. -/

namespace Sys2Proof.Proofs

open Sys2Proof Sys2Proof.Machine

/-- Settles O60: an idle step changes nothing, and every transaction keeps the invariant. -/
theorem stepKeepsTheInvariant : Obligations.StepKeepsTheInvariant := by
  intro s t h ht
  cases hp : s.pending with
  | nil =>
    have hs : step s = .next s := by unfold step hostStep; rw [hp]
    exact Host.Outcome.next.inj (hs.symm.trans ht) ▸ h
  | cons x rest =>
    rw [step_of_pending hp] at ht
    exact transact_inv (s := { s with pending := rest }) ⟨h.memory, h.schedule, h.embed, h.error, h.scratch, h.fresh⟩ ht

/-- Settles O12: each clause is one bit of `status_getLsbD`. -/
theorem statusBits : Obligations.StatusBits := by
  intro s
  simp only [status_getLsbD]
  refine ⟨by simp, by simp [State.err], by simp, by simp, by simp, fun n hn => ?_⟩
  simp [show n ≠ 0 by omega, show n ≠ 1 by omega, show n ≠ 2 by omega, show n ≠ 3 by omega]

/-- Settles O50: the wrapper answers a next state, and no rule writes the fields named. -/
theorem everyCommandCompletes : Obligations.EveryCommandCompletes := by
  intro i s
  obtain ⟨t, ht⟩ := runCommand_completes (isFacade i) (ruleOf i) s
  rw [← exec_eq_runCommand] at ht
  exact ⟨t, ht, exec_next_frame ht⟩

/-- Settles O53: outside the named commands the rule leaves each element alone, so the command does. -/
theorem writersOfEachElement : Obligations.WritersOfEachElement := by
  intro i s t h
  refine ⟨fun hw => ?_, fun hw => ?_, fun hw => ?_⟩
  · by_contra hn
    simp only [not_or, not_exists, Bool.not_eq_true] at hn
    obtain ⟨hf, hv⟩ := hn
    obtain ⟨hiv, hem⟩ := ruleOf_keeps_iv i s hf (fun m v => (hv m v).1) fun m v => (hv m v).2
    have e1 : t.ivBuf = s.ivBuf := exec_next_field State.ivBuf h (fun _ _ => rfl) (fun _ _ => by simp) hiv
    have e2 : t.embed = s.embed := exec_next_field State.embed h (fun _ _ => rfl) (fun _ _ => by simp) hem
    simp [e1, e2] at hw
  · by_contra hn
    simp only [not_or, Bool.not_eq_true] at hn
    obtain ⟨hf, hk, hc⟩ := hn
    obtain ⟨h1, h2, hv⟩ := ruleOf_keeps_schedule i s hf hk hc
    have e1 : t.ks = s.ks := exec_next_field State.ks h (fun _ _ => rfl) (fun _ _ => by simp [hf]) h1
    have e2 : t.ks2 = s.ks2 := exec_next_field State.ks2 h (fun _ _ => rfl) (fun _ _ => by simp [hf]) h2
    have ev : t.ksValid = s.ksValid := exec_next_field State.ksValid h (fun _ _ => rfl) (fun _ _ => by simp [hf]) hv
    simp [e1, e2, ev] at hw
  · by_contra hn
    simp only [not_or, not_exists] at hn
    obtain ⟨hv, hp, ha⟩ := hn
    obtain ⟨hd, he⟩ := ruleOf_keeps_source i s hv hp ha
    obtain ⟨htd, hte⟩ := exec_next_source h
    simp [htd, hte, hd, he] at hw

/-- Settles O5: the step is H_CMD of the word, which runs the decoded instruction. -/
theorem stepRunsTheDecodedCommand : Obligations.StepRunsTheDecodedCommand := by
  intro s w rest i t hp hd he
  have hx : executeWord w { s with pending := rest } = .next t := (executeWord_of_ok _ hd).trans he
  rw [step_of_pending hp]
  exact hostCmd_of_next hx

/-- Settles O11: by the register number, 0 or a successor. -/
theorem onlyCmdIsWritable : Obligations.OnlyCmdIsWritable := by
  intro s rest n w hp
  rw [step_of_pending hp]
  cases n with
  | zero => rfl
  | succ n => rfl

/-- Settles O13: the state is the one H_RESET writes, in which every flag of STATUS is 0. -/
theorem resetClearsEverything : Obligations.ResetClearsEverything := by
  intro s rest hp
  refine ⟨hostReset { s with pending := rest }, step_of_pending hp, rfl, ?_⟩
  simp [State.status, State.err, State.busy, flagAt]

/-- Settles O59: the reset state is H_RESET's from itself but for the reply, which the invariant does not name. -/
theorem resetMeetsTheInvariant : Obligations.ResetMeetsTheInvariant :=
  answer_inv .none (hostReset_inv State.reset)

end Sys2Proof.Proofs

/-! SUPPORT. The host's transactions on the buffers and the registers (R61 to R64), said once: the step of each, and what it
answers. -/

namespace Sys2Proof.Machine

/-- With nothing pending the step is idle (R61). -/
theorem step_of_no_pending {s : State} (h : s.pending = []) : step s = .next s := by
  unfold step hostStep
  rw [h]

theorem step_load {s : State} {b : Buffer} {bytes : Bytes} {rest : List HostTxn} (h : s.pending = .load b bytes :: rest) :
    step s = .next (hostLoad b bytes { s with pending := rest }) := step_of_pending h

theorem step_readBuf {s : State} {b : Buffer} {rest : List HostTxn} (h : s.pending = .readBuf b :: rest) :
    step s = .next (hostReadBuf b { s with pending := rest }) := step_of_pending h

theorem step_readReg {s : State} {n : Nat} {rest : List HostTxn} (h : s.pending = .readReg n :: rest) :
    step s = .next (hostReadReg n { s with pending := rest }) := step_of_pending h

theorem fits_some_iff {len cap : Nat} : fits len (some cap) = true ↔ len ≤ cap := decide_eq_true_iff

theorem fits_eq_elim (len : Nat) (cap : Option Nat) :
    fits len cap = cap.elim true (fun cap => decide (len ≤ cap)) := by cases cap <;> rfl

/-- A buffer that the host may write takes the bytes exactly when they are within its capacity (R62). -/
theorem hostLoad_of_ne_outBuf {b : Buffer} (hb : b ≠ .outBuf) (bytes : Bytes) (s : State) :
    hostLoad b bytes s =
      if fits bytes.length (s.capacity b) then (s.setBuffer b bytes).answer .done else s.answer .refused := by
  cases b with
  | outBuf => exact absurd rfl hb
  | keyBuf | ivBuf | inBuf => rfl

/-- A load of a buffer whose capacity is a number is decided by that number (R6, R62). -/
theorem hostLoad_of_capacity {b : Buffer} {s : State} {cap : Nat} (hb : b ≠ .outBuf) (hc : s.capacity b = some cap)
    (bytes : Bytes) :
    hostLoad b bytes s = if bytes.length ≤ cap then (s.setBuffer b bytes).answer .done else s.answer .refused := by
  simp only [hostLoad_of_ne_outBuf hb, hc, fits_some_iff]

/-- Every buffer but KEYBUF answers what it holds (R63). -/
theorem hostReadBuf_of_ne_keyBuf {b : Buffer} (hb : b ≠ .keyBuf) (s : State) :
    hostReadBuf b s = s.answer (.bytes (s.buffer b)) := by
  cases b with
  | keyBuf => exact absurd rfl hb
  | ivBuf | inBuf | outBuf => rfl

/-- A register read answers the register's value, or is refused where there is no register (R64). -/
theorem hostReadReg_eq_answer (n : Nat) (s : State) :
    hostReadReg n s = s.answer ((s.register? n).elim .refused .value) := by
  unfold hostReadReg
  cases s.register? n <;> rfl

/-- The numbered registers as one choice on the number (R27 to R30). -/
theorem register?_elim {α : Type} (s : State) (n : Nat) (d : α) (f : Nat → α) :
    (s.register? n).elim d f =
      if n = 0 then f s.cmd.toNat
      else if n = 1 then f s.status.toNat
      else if n = 2 then f s.errCode.toNat
      else if n = 3 then f s.keyBuf.length
      else if n = 4 then f s.ivBuf.length
      else if n = 5 then f s.inBuf.length
      else if n = 6 then f s.outBuf.length
      else d := by
  match n with
  | 0 | 1 | 2 | 3 | 4 | 5 | 6 => rfl
  | _ + 7 => rfl

end Sys2Proof.Machine

/-! SUPPORT. The statements on the host's transactions on the buffers and the registers, settled. -/

namespace Sys2Proof.Proofs

open Sys2Proof Sys2Proof.Machine

/-- Settles O7: the idle branch of the step. -/
theorem stepIdlesBetweenTransactions : Obligations.StepIdlesBetweenTransactions := fun _ => step_of_no_pending

/-- Settles O8: by the buffer, each with its capacity; OUTBUF takes no load. -/
theorem loadReplacesTheBuffer : Obligations.LoadReplacesTheBuffer := by
  intro s rest bytes
  refine ⟨fun hp => ?_, fun hp => ?_, fun hp => ?_, fun hp => step_load hp⟩
  · rw [step_load hp, hostLoad_of_capacity (cap := 64) (by decide) rfl]
    rfl
  · rw [step_load hp, hostLoad_of_capacity (cap := 32) (by decide) rfl]
    rfl
  · rw [step_load hp, hostLoad_of_ne_outBuf (by decide), fits_eq_elim]
    rfl

/-- Settles O9: by the buffer; KEYBUF is the one that is not read. -/
theorem readBufReturnsTheBuffer : Obligations.ReadBufReturnsTheBuffer := by
  intro s rest
  refine ⟨fun hp => ?_, fun hp => ?_, fun hp => ?_, fun hp => step_readBuf hp⟩ <;>
    rw [step_readBuf hp, hostReadBuf_of_ne_keyBuf (by decide)] <;> rfl

/-- Settles O10: the reply is the choice of `register?_elim`. -/
theorem readRegReturnsTheRegister : Obligations.ReadRegReturnsTheRegister := by
  intro s rest n hp
  rw [step_readReg hp, hostReadReg_eq_answer, register?_elim]
  rfl

end Sys2Proof.Proofs

/-! SUPPORT. The command word field by field (R80 to R86). A word is its eight fields; the word `commandWord` of an opcode
and its operands has the fields `commandFields`; and every instruction's word is such a word, with the operands its opcode
does not take at code zero. -/

namespace Sys2Proof

/-! ## A word is its fields (R80) -/

/-- Two words that agree on a field agree on each of its bits. -/
theorem getLsbD_eq_of_extractLsb'_eq {v w : Word} {start len i : Nat}
    (h : v.extractLsb' start len = w.extractLsb' start len) (hi : start ≤ i ∧ i - start < len) :
    v.getLsbD i = w.getLsbD i := by
  simpa [BitVec.getLsbD_extractLsb', hi.2, Nat.add_sub_cancel' hi.1] using congrArg (·.getLsbD (i - start)) h

/-- No bit of a word lies outside the fields of `CMD32` (R80). -/
theorem fieldsOf_injective {v w : Word} (h : fieldsOf v = fieldsOf w) : v = w := by
  simp only [fieldsOf, CommandFields.mk.injEq] at h
  obtain ⟨hop, hmode, h11, hpad, h15, hivp, h18, hhigh⟩ := h
  refine BitVec.eq_of_getLsbD_eq fun i hi => ?_
  obtain hi | hi | rfl | hi | rfl | hi | rfl | hi :
      (0 ≤ i ∧ i - 0 < 8) ∨ (8 ≤ i ∧ i - 8 < 3) ∨ i = 11 ∨ (12 ≤ i ∧ i - 12 < 3) ∨ i = 15 ∨
        (16 ≤ i ∧ i - 16 < 2) ∨ i = 18 ∨ (19 ≤ i ∧ i - 19 < 13) := by omega
  · exact getLsbD_eq_of_extractLsb'_eq hop hi
  · exact getLsbD_eq_of_extractLsb'_eq hmode hi
  · exact h11
  · exact getLsbD_eq_of_extractLsb'_eq hpad hi
  · exact h15
  · exact getLsbD_eq_of_extractLsb'_eq hivp hi
  · exact h18
  · exact getLsbD_eq_of_extractLsb'_eq hhigh hi

theorem fieldsOf_inj {v w : Word} : fieldsOf v = fieldsOf w ↔ v = w := ⟨fieldsOf_injective, congrArg fieldsOf⟩

/-- The fields of the OR of two words. -/
def CommandFields.or (f g : CommandFields) : CommandFields :=
  ⟨f.op ||| g.op, f.mode ||| g.mode, f.bit11 || g.bit11, f.pad ||| g.pad, f.bit15 || g.bit15, f.ivp ||| g.ivp,
    f.b64 || g.b64, f.high ||| g.high⟩

/-- The fields of the AND of two words. -/
def CommandFields.and (f g : CommandFields) : CommandFields :=
  ⟨f.op &&& g.op, f.mode &&& g.mode, f.bit11 && g.bit11, f.pad &&& g.pad, f.bit15 && g.bit15, f.ivp &&& g.ivp,
    f.b64 && g.b64, f.high &&& g.high⟩

theorem fieldsOf_or (v w : Word) : fieldsOf (v ||| w) = (fieldsOf v).or (fieldsOf w) := by
  simp only [fieldsOf, CommandFields.or, BitVec.extractLsb'_or, BitVec.getLsbD_or]

theorem fieldsOf_and (v w : Word) : fieldsOf (v &&& w) = (fieldsOf v).and (fieldsOf w) := by
  simp only [fieldsOf, CommandFields.and, BitVec.extractLsb'_and, BitVec.getLsbD_and]

/-! ## The codes (R81 to R84) -/

/-- The `OP` byte of an opcode (R81). -/
def Op.byte (op : Op) : Byte := (opMatch op).setWidth 8

/-- `opOf?` is the inverse of the opcodes' bytes (R81). -/
theorem opOf?_eq_some {b : Byte} {op : Op} : opOf? b = some op ↔ b = op.byte := by
  constructor
  · intro h
    unfold opOf? at h
    split at h <;> cases h <;> exact BitVec.eq_of_toNat_eq ‹_›
  · rintro rfl
    cases op <;> rfl

theorem modeOf?_eq_some {c : BitVec 3} {m : Mode} : modeOf? c = some m ↔ c = m.code.setWidth 3 := by
  revert c
  cases m <;> decide

theorem schemeOf?_eq_some {c : BitVec 3} {p : Scheme} : schemeOf? c = some p ↔ c = p.code.setWidth 3 := by
  revert c
  cases p <;> decide

theorem policyOf?_eq_some {c : BitVec 2} {v : Policy} : policyOf? c = some v ↔ c = v.code.setWidth 2 := by
  revert c
  cases v <;> decide

/-- No field holds a reserved code exactly when each code names an operand (R82 to R84, R88 (b)). -/
theorem codesLegal_eq (f : CommandFields) :
    f.codesLegal = ((modeOf? f.mode).isSome && (schemeOf? f.pad).isSome && (policyOf? f.ivp).isSome) := by
  have hm : ∀ c, (modeOf? c).isSome = decide (c.toNat ≤ 5) := by decide
  have hp : ∀ c, (schemeOf? c).isSome = decide (c.toNat ≤ 5) := by decide
  have hv : ∀ c, (policyOf? c).isSome = (c != 1) := by decide
  rw [hm, hp, hv, CommandFields.codesLegal]

/-- The opcodes of `opOf?` are the bytes that are defined (R81, R88 (a)). -/
theorem opOf?_isSome (f : CommandFields) : (opOf? f.op).isSome = f.opDefined := by
  have h : ∀ b : Byte, (opOf? b).isSome =
      (plainOpcodes ++ padOpcodes ++ modeOpcodes ++ ivOpcodes ++ facadeOpcodes).contains b := by decide +kernel
  exact h f.op

theorem wellFormed_iff {f : CommandFields} :
    f.wellFormed = true ↔ f.opDefined = true ∧ f.reservedClear = true ∧ f.untakenClear = true := by
  simp only [CommandFields.wellFormed, Bool.and_eq_true, and_assoc]

/-! ## The word of an opcode and its operands (R86, R89) -/

/-- The bit `B64` in a word (R80). -/
def b64Word (b : Bool) : Word := if b then 0x00040000 else 0

/-- `OP`, `MODE << 8`, `PAD << 12`, `IVP << 16` and `B64 << 18` (R80, R89). -/
def commandWord (op : Op) (m : Mode) (p : Scheme) (v : Policy) (b : Bool) : Word :=
  opMatch op ||| m.code <<< 8 ||| p.code <<< 12 ||| v.code <<< 16 ||| b64Word b

/-- The fields that hold an opcode and its operands, the reserved bits clear (R80). -/
def commandFields (op : Op) (m : Mode) (p : Scheme) (v : Policy) (b : Bool) : CommandFields :=
  ⟨op.byte, m.code.setWidth 3, false, p.code.setWidth 3, false, v.code.setWidth 2, b, 0⟩

theorem fieldsOf_opMatch (op : Op) : fieldsOf (opMatch op) = ⟨op.byte, 0, false, 0, false, 0, false, 0⟩ := by
  cases op <;> rfl

theorem fieldsOf_mode (m : Mode) : fieldsOf (m.code <<< 8) = ⟨0, m.code.setWidth 3, false, 0, false, 0, false, 0⟩ := by
  cases m <;> rfl

theorem fieldsOf_scheme (p : Scheme) :
    fieldsOf (p.code <<< 12) = ⟨0, 0, false, p.code.setWidth 3, false, 0, false, 0⟩ := by
  cases p <;> rfl

theorem fieldsOf_policy (v : Policy) :
    fieldsOf (v.code <<< 16) = ⟨0, 0, false, 0, false, v.code.setWidth 2, false, 0⟩ := by
  cases v <;> rfl

theorem fieldsOf_b64Word (b : Bool) : fieldsOf (b64Word b) = ⟨0, 0, false, 0, false, 0, b, 0⟩ := by
  cases b <;> rfl

/-- Each operand stands in its own field: the shifts of R89 do not overlap. -/
theorem fieldsOf_commandWord (op : Op) (m : Mode) (p : Scheme) (v : Policy) (b : Bool) :
    fieldsOf (commandWord op m p v b) = commandFields op m p v b := by
  simp [commandWord, commandFields, CommandFields.or, fieldsOf_or, fieldsOf_opMatch, fieldsOf_mode, fieldsOf_scheme,
    fieldsOf_policy, fieldsOf_b64Word]

/-! ## Mask and match (R86) -/

/-- The column `mask` of R86: `OP`, the reserved bits, and each operand field that the opcode does not take. -/
theorem fieldsOf_opMask {f : CommandFields} {op : Op} (hop : f.op = op.byte) :
    fieldsOf (opMask op) =
      ⟨.allOnes 8, if f.takesMode then 0 else .allOnes 3, true, if f.takesPad then 0 else .allOnes 3, true,
        if f.takesIvp then 0 else .allOnes 2, !f.takesB64, .allOnes 13⟩ := by
  simp only [CommandFields.takesMode, CommandFields.takesPad, CommandFields.takesIvp, CommandFields.takesB64, hop]
  cases op <;> rfl

/-- A field under its part of a mask is zero exactly when the opcode takes it or it holds zero. -/
theorem and_fieldMask_eq_zero {n : Nat} (taken : Bool) (x : BitVec n) :
    x &&& (if taken then 0 else .allOnes n) = 0 ↔ (taken || x == 0) = true := by
  cases taken <;> simp

theorem and_not_eq_false (taken x : Bool) : (x && !taken) = false ↔ (taken || !x) = true := by
  cases taken <;> cases x <;> decide

/-- A word of a defined opcode meets the mask and match words of R86 exactly when it is well-formed field by field. -/
theorem mask_eq_match_iff_wellFormed {w : Word} {op : Op} (hop : opOf? (fieldsOf w).op = some op) :
    w &&& opMask op = opMatch op ↔ (fieldsOf w).wellFormed = true := by
  have hd : (fieldsOf w).opDefined = true := by rw [← opOf?_isSome, hop]; rfl
  have hb := opOf?_eq_some.mp hop
  rw [← fieldsOf_inj, fieldsOf_and, fieldsOf_opMask hb, fieldsOf_opMatch, ← hb]
  simp only [CommandFields.and, CommandFields.mk.injEq, and_fieldMask_eq_zero, and_not_eq_false, BitVec.and_allOnes,
    wellFormed_iff, hd, CommandFields.reservedClear, CommandFields.untakenClear]
  simp only [Bool.and_true, Bool.and_eq_true, Bool.not_eq_true', beq_iff_eq, true_and]
  tauto

/-! ## The instructions (R213) -/

theorem or_or_comm_right (x y z : Word) : x ||| (y ||| z) = x ||| z ||| y := by ac_rfl

theorem or_move_pair_last (a x y c d : Word) : a ||| x ||| y ||| c ||| d = a ||| c ||| d ||| (x ||| y) := by ac_rfl

/-- The word with `MODE` and `PAD` set last, as the rows of R213 have it. -/
theorem commandWord_eq_operandWord (op : Op) (m : Mode) (p : Scheme) (v : Policy) (b : Bool) :
    commandWord op m p v b = opMatch op ||| v.code <<< 16 ||| b64Word b ||| operandWord m p :=
  or_move_pair_last ..

/-- An instruction's word is its opcode and operands, those that the opcode does not take being zero (R86). -/
theorem encode_instrOf (op : Op) (m : Mode) (p : Scheme) (v : Policy) (b : Bool) :
    encode (instrOf m p v b op) =
      commandWord op (if (commandFields op m p v b).takesMode then m else .ecb)
        (if (commandFields op m p v b).takesPad then p else .none)
        (if (commandFields op m p v b).takesIvp then v else .explicit) ((commandFields op m p v b).takesB64 && b) := by
  cases op with
  | kexp | encb | decb | kclr | ivpp | b64e | b64d =>
    change _ = commandWord _ .ecb .none .explicit false
    rfl
  | pad | unpad =>
    change _ = commandWord _ .ecb p .explicit false
    cases p <;> rfl
  | menc | mdec =>
    change _ = commandWord _ m .none .explicit false
    cases m <;> rfl
  | ivre | ivrd =>
    change _ = commandWord _ m .none v false
    rw [commandWord_eq_operandWord]
    cases v <;> simp [encode, instrOf, rowMatch, rowOperands, opMatch, Policy.code, b64Word, or_or_comm_right]
  | aese | aesd =>
    change _ = commandWord _ m p v b
    rw [commandWord_eq_operandWord]
    cases v <;> cases b <;>
      simp [encode, instrOf, Instr.aeseOf, Instr.aesdOf, rowMatch, rowOperands, flagWord, opMatch, Policy.code, b64Word,
        or_or_comm_right]

/-- An operand that is not taken and has code zero is its default. -/
theorem taken_ite_eq {α : Type} {n : Nat} {taken : Bool} {c : BitVec n} {x d : α} (hz : c = 0 → d = x)
    (h : (taken || c == 0) = true) : (if taken then x else d) = x := by
  cases taken with
  | true => rfl
  | false => exact hz (by simpa using h)

theorem taken_and_eq : ∀ taken b : Bool, (taken || !b) = true → (taken && b) = b := by decide

/-- Where the operands that the opcode does not take are zero, an instruction's word has every operand (R86). -/
theorem encode_instrOf_of_untakenClear {op : Op} {m : Mode} {p : Scheme} {v : Policy} {b : Bool}
    (h : (commandFields op m p v b).untakenClear = true) : encode (instrOf m p v b op) = commandWord op m p v b := by
  simp only [CommandFields.untakenClear, Bool.and_eq_true] at h
  obtain ⟨⟨⟨hm, hp⟩, hv⟩, hb⟩ := h
  rw [encode_instrOf, taken_ite_eq (fun hz => Option.some.inj (modeOf?_eq_some.mpr hz.symm)) hm,
    taken_ite_eq (fun hz => Option.some.inj (schemeOf?_eq_some.mpr hz.symm)) hp,
    taken_ite_eq (fun hz => Option.some.inj (policyOf?_eq_some.mpr hz.symm)) hv]
  exact congrArg _ (taken_and_eq _ b hb)

/-! ## The decoder (R87 steps 1 to 3) -/

/-- A word whose fields are not well-formed is no command (R88 (a)). -/
theorem decode_of_not_wellFormed {w : Word} (h : (fieldsOf w).wellFormed = false) :
    decode w = .error .illegalCommand := by
  unfold decode
  split
  · rfl
  · next op hop => rw [if_neg (by simp [mask_eq_match_iff_wellFormed hop, h])]

/-- A well-formed word has a defined opcode, and its operands decide (R87 step 3). -/
theorem decode_of_wellFormed {w : Word} (h : (fieldsOf w).wellFormed = true) :
    ∃ op, (fieldsOf w).op = op.byte ∧ decode w = decodeOperands (fieldsOf w) op := by
  obtain ⟨hd, -⟩ := wellFormed_iff.mp h
  obtain ⟨op, hop⟩ := Option.isSome_iff_exists.mp ((opOf?_isSome _).trans hd)
  refine ⟨op, opOf?_eq_some.mp hop, ?_⟩
  simp only [decode, hop, if_pos ((mask_eq_match_iff_wellFormed hop).mpr h)]

/-- Three codes that are not reserved name the operands they are the codes of (R82 to R84). -/
theorem decodeOperands_of_codesLegal {f : CommandFields} (h : f.codesLegal = true) (op : Op) :
    ∃ m p v, f.mode = m.code.setWidth 3 ∧ f.pad = p.code.setWidth 3 ∧ f.ivp = v.code.setWidth 2 ∧
      decodeOperands f op = .ok (instrOf m p v f.b64 op) := by
  rw [codesLegal_eq, Bool.and_eq_true, Bool.and_eq_true] at h
  simp only [Option.isSome_iff_exists] at h
  obtain ⟨⟨⟨m, hm⟩, p, hp⟩, v, hv⟩ := h
  exact ⟨m, p, v, modeOf?_eq_some.mp hm, schemeOf?_eq_some.mp hp, policyOf?_eq_some.mp hv,
    by simp only [decodeOperands, hm, hp, hv]⟩

/-- A reserved code is refused (R88 (b)). -/
theorem decodeOperands_of_not_codesLegal {f : CommandFields} (h : f.codesLegal = false) (op : Op) :
    decodeOperands f op = .error .unsupportedModeOption := by
  unfold decodeOperands
  split
  · next hm hp hv => simp [codesLegal_eq, hm, hp, hv] at h
  · rfl

/-- Fields that hold the codes of an opcode and of operands, the reserved bits clear, are `commandFields` of them. -/
theorem eq_commandFields {f : CommandFields} {op : Op} {m : Mode} {p : Scheme} {v : Policy} (hr : f.reservedClear = true)
    (hop : f.op = op.byte) (hm : f.mode = m.code.setWidth 3) (hp : f.pad = p.code.setWidth 3)
    (hv : f.ivp = v.code.setWidth 2) : f = commandFields op m p v f.b64 := by
  simp only [CommandFields.reservedClear, Bool.and_eq_true, Bool.not_eq_true', beq_iff_eq] at hr
  obtain ⟨⟨h11, h15⟩, hh⟩ := hr
  cases f
  rw [commandFields, CommandFields.mk.injEq]
  exact ⟨hop, hm, h11, hp, h15, hv, rfl, hh⟩

/-- Everything the decoder can do: refuse ill-formed fields, refuse a reserved code, or give the instruction of an opcode
and its operands, whose word this is (R87 steps 1 to 3, R88). -/
theorem decode_cases (w : Word) :
    ((fieldsOf w).wellFormed = false ∧ decode w = .error .illegalCommand) ∨
    ((fieldsOf w).wellFormed = true ∧ (fieldsOf w).codesLegal = false ∧ decode w = .error .unsupportedModeOption) ∨
    ((fieldsOf w).wellFormed = true ∧ (fieldsOf w).codesLegal = true ∧ ∃ op m p v b, w = commandWord op m p v b ∧
      (commandFields op m p v b).untakenClear = true ∧ decode w = .ok (instrOf m p v b op)) := by
  cases hw : (fieldsOf w).wellFormed with
  | false => exact .inl ⟨rfl, decode_of_not_wellFormed hw⟩
  | true =>
    obtain ⟨op, hop, hd⟩ := decode_of_wellFormed hw
    cases hc : (fieldsOf w).codesLegal with
    | false => exact .inr (.inl ⟨rfl, rfl, hd.trans (decodeOperands_of_not_codesLegal hc op)⟩)
    | true =>
      obtain ⟨m, p, v, hm, hp, hv, ho⟩ := decodeOperands_of_codesLegal hc op
      obtain ⟨-, hr, hu⟩ := wellFormed_iff.mp hw
      have hf := eq_commandFields hr hop hm hp hv
      exact .inr (.inr ⟨rfl, rfl, op, m, p, v, (fieldsOf w).b64,
        fieldsOf_injective (hf.trans (fieldsOf_commandWord ..).symm), hf ▸ hu, hd.trans ho⟩)

/-- A word that decodes is its instruction's word. -/
theorem encode_of_decode {w : Word} {i : Instr} (h : decode w = .ok i) : encode i = w := by
  obtain ⟨-, hd⟩ | ⟨-, -, hd⟩ | ⟨-, -, op, m, p, v, b, rfl, hu, hd⟩ := decode_cases w
  · cases h.symm.trans hd
  · cases h.symm.trans hd
  · cases h.symm.trans hd
    exact encode_instrOf_of_untakenClear hu

/-- A word is refused by one of two kinds (R88 (a), (b)). -/
theorem decode_eq_error {w : Word} {k : ErrorKind} (h : decode w = .error k) :
    k = .illegalCommand ∨ k = .unsupportedModeOption := by
  obtain ⟨-, hd⟩ | ⟨-, -, hd⟩ | ⟨-, -, op, m, p, v, b, -, -, hd⟩ := decode_cases w
  · exact .inl (Except.error.inj (h.symm.trans hd))
  · exact .inr (Except.error.inj (h.symm.trans hd))
  · cases h.symm.trans hd

/-- The word of an opcode and its operands decodes to the instruction they name. -/
theorem decode_commandWord {op : Op} {m : Mode} {p : Scheme} {v : Policy} {b : Bool}
    (h : (commandFields op m p v b).untakenClear = true) :
    decode (commandWord op m p v b) = .ok (instrOf m p v b op) := by
  have hop : opOf? (commandFields op m p v b).op = some op := opOf?_eq_some.mpr rfl
  have hw : (fieldsOf (commandWord op m p v b)).wellFormed = true := by
    rw [fieldsOf_commandWord, wellFormed_iff, ← opOf?_isSome, hop]
    exact ⟨rfl, rfl, h⟩
  obtain ⟨op', hop', hd⟩ := decode_of_wellFormed hw
  rw [fieldsOf_commandWord] at hop' hd
  obtain rfl : op = op' := Option.some.inj (hop.symm.trans (opOf?_eq_some.mpr hop'))
  rw [hd]
  simp only [decodeOperands, commandFields, modeOf?_eq_some.mpr rfl, schemeOf?_eq_some.mpr rfl, policyOf?_eq_some.mpr rfl]

end Sys2Proof

namespace Sys2Proof.Machine

/-! ## The assembler line (R89) -/

theorem instrOf_asmOf (i : Instr) :
    instrOf (asmOf i).operands.1 (asmOf i).operands.2.1 (asmOf i).operands.2.2 (asmOf i).b64 (asmOf i).op = i := by
  cases i with
  | aeseF f | aeseFB64 f | aesdF f | aesdFB64 f => cases f <;> rfl
  | _ => rfl

/-- An instruction's line has no operand that its opcode does not take. -/
theorem asmOf_untakenClear (i : Instr) :
    (commandFields (asmOf i).op (asmOf i).operands.1 (asmOf i).operands.2.1 (asmOf i).operands.2.2
      (asmOf i).b64).untakenClear = true := by
  cases i <;> rfl

/-- A line's word is the word of its opcode and its operands after the defaults (R89). -/
theorem AsmLine.word_eq_commandWord (l : AsmLine) :
    l.word = commandWord l.op l.operands.1 l.operands.2.1 l.operands.2.2 l.b64 := by
  unfold AsmLine.word commandWord
  exact congrArg _ (by cases l.b64 <;> rfl)

theorem asmOf_word (i : Instr) : (asmOf i).word = encode i := by
  rw [AsmLine.word_eq_commandWord, ← encode_instrOf_of_untakenClear (asmOf_untakenClear i), instrOf_asmOf]

/-- Decoding an instruction's word gives the instruction: its line's operands are what its opcode takes. -/
theorem decode_encode (i : Instr) : decode (encode i) = .ok i := by
  rw [← asmOf_word, AsmLine.word_eq_commandWord, decode_commandWord (asmOf_untakenClear i), instrOf_asmOf]

/-! ## No step stops (R88 (d), R245) -/

/-- Every transaction is answered by a next state: a command word by `executeWord_next`, the others by what they are. -/
theorem transact_completes (x : HostTxn) (s : State) : ∃ t, transact x s = .next t := by
  have hcmd (w : Word) : ∃ t, hostCmd w s = .next t := by
    obtain ⟨t, ht, -⟩ := executeWord_next w s
    exact ⟨_, hostCmd_of_next ht⟩
  cases x with
  | cmd w => exact hcmd w
  | writeReg n w =>
    cases n with
    | zero => exact hcmd w
    | succ n => exact ⟨_, rfl⟩
  | load | readBuf | readReg | reset => exact ⟨_, rfl⟩

end Sys2Proof.Machine

/-! SUPPORT. The statements on the decoder, the encoder and the failing words and commands, settled. -/

namespace Sys2Proof.Proofs

open Sys2Proof Sys2Proof.Machine

/-- Settles O1: an instruction's word has exactly the operands that its opcode takes, and no word has another form. -/
theorem decodeAndEncodeAreInverse : Obligations.DecodeAndEncodeAreInverse :=
  ⟨decode_encode, fun _ _ => encode_of_decode⟩

/-- Settles O2: each of the decoder's three cases has its own field tests. -/
theorem decodeRefusesExactlyBadWords : Obligations.DecodeRefusesExactlyBadWords := by
  intro w
  obtain ⟨hw, hd⟩ | ⟨hw, hc, hd⟩ | ⟨hw, hc, op, m, p, v, b, -, -, hd⟩ := decode_cases w
  · simp [hw, hd]
  · simp [hw, hc, hd]
  · simp [hw, hc, hd]

/-- Settles O14: an idle step answers its own state, and every transaction completes. -/
theorem stepNeverStops : Obligations.StepNeverStops := by
  intro s
  cases hp : s.pending with
  | nil => exact ⟨s, step_of_no_pending hp⟩
  | cons x rest =>
    rw [step_of_pending hp]
    exact transact_completes x _

/-- Settles O51: a commit writes ERRCODE 0, so the command took the error, which writes nothing else. -/
theorem failedCommandChangesNothingElse : Obligations.FailedCommandChangesNothingElse := by
  intro i s t h hne
  obtain ⟨u, res, -, rfl⟩ | ⟨u, k, -, rfl⟩ := exec_next h
  · exact absurd rfl hne
  · unfold State.takeError
    cases isFacade i <;> rfl

/-- Settles O3: each legal word is the word of the instruction named, and the other two have no defined opcode. -/
theorem sampleWordsDecode : Obligations.SampleWordsDecode :=
  ⟨decode_encode .kexp, decode_encode .padPkcs7, decode_encode .unpadIso7816_4, decode_encode .mencCtr,
    decode_encode .mdecCbc, decode_encode (.ivre .cbc .flag1), decode_encode .ivpp, decode_encode .b64d,
    decode_encode (.aeseX .cbc .pkcs7), decode_encode (.aeseX .xts .none), decode_encode (.aeseFB64 true .ctr .pkcs7),
    decode_encode (.aesdFB64 true .ctr .pkcs7), decode_of_not_wellFormed (by decide),
    decode_of_not_wellFormed (by decide)⟩

/-- Settles O4: AESE and AESD take every operand, so the word of each line is the one `encode_instrOf_of_untakenClear`
gives. -/
theorem assembledLineIsTheInstructionsWord : Obligations.AssembledLineIsTheInstructionsWord := by
  refine ⟨asmOf_word, fun m p v b => ?_⟩
  have he (m : Mode) (p : Scheme) : commandWord .aese m p v b = encode (.aeseOf m p v b) :=
    (encode_instrOf_of_untakenClear (op := .aese) rfl).symm
  have hd (m : Mode) (p : Scheme) : commandWord .aesd m p v b = encode (.aesdOf m p v b) :=
    (encode_instrOf_of_untakenClear (op := .aesd) rfl).symm
  simp only [AsmLine.word_eq_commandWord, ← he, ← hd]
  exact ⟨rfl, rfl, rfl, rfl, rfl, rfl⟩

/-- Settles O6: the step is H_CMD of the word, which takes the error as no facade command; the empty result fits. -/
theorem stepFailsUndecodableWord : Obligations.StepFailsUndecodableWord := by
  intro s w rest k hp hd
  have hk := decode_eq_error hd
  refine ⟨hk, ?_⟩
  rw [step_of_pending hp]
  refine (hostCmd_of_next (executeWord_of_error _ hd)).trans ?_
  obtain rfl | rfl := hk <;> simp [State.takeError, State.answer, errorCode]

end Sys2Proof.Proofs

/-! SUPPORT. The field product and the substitution boxes (R101 to R105): `gmul` is linear in its first factor and commutes with
`xtime` there, and every byte is made from 0 and 1 by XOR and `xtime`; the laws of the product follow by that induction. -/

namespace Sys2Proof.Machine

/-! ## XOR and xtime make every byte -/

/-- Horner's rule: a byte is `xtime` of its upper bits and its low bit (R101). -/
theorem byte_eq_xtime_xor : ∀ a : Byte, a = xtime (a >>> 1) ^^^ if a.getLsbD 0 then 1 else 0 := by decide +kernel

/-- What holds of 0 and 1 and is kept by XOR and `xtime` holds of every byte. -/
theorem xtime_induction {P : Byte → Prop} (zero : P 0#8) (one : P 1#8) (xor : ∀ a b, P a → P b → P (a ^^^ b))
    (xtime : ∀ a, P a → P (xtime a)) (a : Byte) : P a := by
  induction hn : a.toNat using Nat.strongRecOn generalizing a with
  | ind n ih =>
    subst hn
    by_cases h0 : a = 0
    · exact h0 ▸ zero
    · have hlt : (a >>> 1).toNat < a.toNat := by
        have hpos : a.toNat ≠ 0 := fun h => h0 (BitVec.eq_of_toNat_eq h)
        rw [BitVec.toNat_ushiftRight, Nat.shiftRight_one]
        omega
      rw [byte_eq_xtime_xor a]
      refine xor _ _ (xtime _ (ih _ hlt _ rfl)) ?_
      split
      · exact one
      · exact zero

/-- `xtime` as a shift and the reduction by `0x11B` (R101). -/
theorem xtime_eq : ∀ a : Byte, xtime a = a <<< 1 ^^^ if a.getLsbD 7 then 0x1B else 0 := by decide +kernel

@[simp] theorem xtime_zero : xtime 0#8 = 0#8 := by decide

theorem xtime_xor (a b : Byte) : xtime (a ^^^ b) = xtime a ^^^ xtime b := by
  have hr : ∀ x y : Bool, (if x ^^ y then 0x1B else 0 : Byte) = (if x then 0x1B else 0) ^^^ if y then 0x1B else 0 := by
    decide
  simp only [xtime_eq, BitVec.shiftLeft_xor_distrib, BitVec.getLsbD_xor, hr]
  ac_rfl

/-! ## The first factor (R102) -/

theorem gmulLoop_xor (n : Nat) (a a' b p p' : Byte) :
    gmulLoop n (a ^^^ a') b (p ^^^ p') = gmulLoop n a b p ^^^ gmulLoop n a' b p' := by
  induction n generalizing a a' b p p' with
  | zero => rfl
  | succ n ih =>
    simp only [gmulLoop, xtime_xor]
    split
    · rw [← ih]
      congr 1
      ac_rfl
    · exact ih ..

theorem gmulLoop_xtime (n : Nat) (a b p : Byte) :
    gmulLoop n (xtime a) b (xtime p) = xtime (gmulLoop n a b p) := by
  induction n generalizing a b p with
  | zero => rfl
  | succ n ih =>
    simp only [gmulLoop]
    split
    · rw [← xtime_xor, ih]
    · exact ih ..

theorem xor_gmul (a b c : Byte) : gmul (a ^^^ b) c = gmul a c ^^^ gmul b c := gmulLoop_xor 8 a b c 0 0

theorem xtime_gmul (a b : Byte) : gmul (xtime a) b = xtime (gmul a b) := gmulLoop_xtime 8 a b 0

@[simp] theorem zero_gmul (b : Byte) : gmul 0#8 b = 0#8 := by simpa using xor_gmul 0 0 b

@[simp] theorem one_gmul : ∀ b : Byte, gmul 1#8 b = b := by decide +kernel

/-! ## The laws of the product -/

theorem gmul_xor (a b c : Byte) : gmul a (b ^^^ c) = gmul a b ^^^ gmul a c := by
  induction a using xtime_induction with
  | zero => simp
  | one => simp
  | xor a a' ha ha' => rw [xor_gmul, xor_gmul, xor_gmul, ha, ha']; ac_rfl
  | xtime a ha => rw [xtime_gmul, xtime_gmul, xtime_gmul, ha, xtime_xor]

theorem gmul_xtime (a b : Byte) : gmul a (xtime b) = xtime (gmul a b) := by
  induction a using xtime_induction with
  | zero => simp
  | one => simp
  | xor a a' ha ha' => rw [xor_gmul, xor_gmul, ha, ha', xtime_xor]
  | xtime a ha => rw [xtime_gmul, xtime_gmul, ha]

@[simp] theorem gmul_zero (a : Byte) : gmul a 0#8 = 0#8 := by simpa using gmul_xor a 0 0

@[simp] theorem gmul_one (a : Byte) : gmul a 1#8 = a := by
  induction a using xtime_induction with
  | zero => simp
  | one => simp
  | xor a b ha hb => rw [xor_gmul, ha, hb]
  | xtime a ha => rw [xtime_gmul, ha]

theorem gmul_comm (a b : Byte) : gmul a b = gmul b a := by
  induction a using xtime_induction with
  | zero => simp
  | one => simp
  | xor a a' ha ha' => rw [xor_gmul, gmul_xor, ha, ha']
  | xtime a ha => rw [xtime_gmul, gmul_xtime, ha]

theorem gmul_assoc (a b c : Byte) : gmul (gmul a b) c = gmul a (gmul b c) := by
  induction a using xtime_induction with
  | zero => simp
  | one => simp
  | xor a a' ha ha' => rw [xor_gmul, xor_gmul, xor_gmul, ha, ha']
  | xtime a ha => rw [xtime_gmul, xtime_gmul, xtime_gmul, ha]

theorem gmul_two (a : Byte) : gmul a 2 = xtime a := by
  have h : (2 : Byte) = xtime 1#8 := by decide
  rw [h, gmul_xtime, gmul_one]

theorem gmul_three (a : Byte) : gmul a 3 = xtime a ^^^ a := by
  have h : (3 : Byte) = 2 ^^^ 1#8 := by decide
  rw [h, gmul_xor, gmul_two, gmul_one]

/-! ## The inverse (R103): squaring is linear, so the 256th power is the identity -/

/-- The square of a byte, the step from one factor of `ginv` to the next (R103). -/
def gsquare (a : Byte) : Byte := gmul a a

theorem gsquare_xor (a b : Byte) : gsquare (a ^^^ b) = gsquare a ^^^ gsquare b := by
  rw [gsquare, xor_gmul, gmul_xor, gmul_xor, gmul_comm b a, BitVec.xor_assoc, ← BitVec.xor_assoc (gmul a b),
    BitVec.xor_self, BitVec.zero_xor]
  rfl

theorem gsquare_gmul (a b : Byte) : gsquare (gmul a b) = gmul (gsquare a) (gsquare b) := by
  simp only [gsquare]
  rw [gmul_assoc, ← gmul_assoc b, gmul_comm b a, gmul_assoc a b b, ← gmul_assoc a]

/-- `a` to the power 256 is `a`: both sides keep XOR and products, and 2 to that power is 2. -/
theorem iterate_gsquare_eight (a : Byte) : gsquare^[8] a = a := by
  have h2 : gsquare^[8] 2 = 2 := by decide +kernel
  induction a using xtime_induction with
  | zero => decide +kernel
  | one => decide +kernel
  | xor a b ha hb => rw [Function.Semiconj₂.iterate gsquare_xor, ha, hb]
  | xtime a ha => rw [← gmul_two, Function.Semiconj₂.iterate gsquare_gmul, ha, h2]

theorem squaresProduct_gmul (n : Nat) (q acc x : Byte) :
    squaresProduct n q (gmul acc x) = gmul (squaresProduct n q acc) x := by
  induction n generalizing q acc with
  | zero => rfl
  | succ n ih => rw [squaresProduct, squaresProduct, ← ih, gmul_assoc, gmul_comm x, ← gmul_assoc]

/-- The exponents: 2 + 4 + ... + 2^n, and 2 once more, make 2^(n + 1). -/
theorem squaresProduct_gmul_gsquare (n : Nat) (q acc : Byte) :
    gmul (squaresProduct n q acc) (gsquare q) = gmul acc (gsquare^[n + 1] q) := by
  induction n generalizing q with
  | zero => rfl
  | succ n ih =>
    calc gmul (squaresProduct (n + 1) q acc) (gsquare q)
        = gmul (squaresProduct n (gsquare q) (gmul acc (gsquare q))) (gsquare q) := rfl
      _ = gmul (squaresProduct n (gsquare q) acc) (gsquare (gsquare q)) := by
          rw [squaresProduct_gmul, gmul_assoc]; rfl
      _ = gmul acc (gsquare^[n + 2] q) := ih _

/-- The inverse of the affine map in the formula of SBox (R104). -/
def sboxAffineInv (y : Byte) : Byte := rotl8 y 1 ^^^ rotl8 y 3 ^^^ rotl8 y 6 ^^^ 0x05

/-- SBox with its affine map undone is an inverse, so the nonzero bytes have one. -/
theorem gmul_sboxAffineInv_sbox : ∀ a : Byte, a ≠ 0 → gmul a (sboxAffineInv (sbox a)) = 1#8 := by decide +kernel

theorem ginv_zero : ginv 0 = 0 := by decide +kernel

/-- `ginv(a)` is an inverse of a nonzero byte: `ginv(a)` times `a` times `a` is the 256th power, which is `a`, and `a` has an
inverse to cancel it by. -/
theorem gmul_ginv {a : Byte} (ha : a ≠ 0) : gmul a (ginv a) = 1#8 := by
  have hp : gmul (ginv a) (gmul a a) = a :=
    (squaresProduct_gmul_gsquare 7 a 1).trans ((one_gmul _).trans (iterate_gsquare_eight a))
  have hc := gmul_sboxAffineInv_sbox a ha
  calc gmul a (ginv a) = gmul (ginv a) (gmul a (gmul a (sboxAffineInv (sbox a)))) := by rw [hc, gmul_one, gmul_comm]
    _ = gmul a (sboxAffineInv (sbox a)) := by rw [← gmul_assoc a, ← gmul_assoc, hp]
    _ = 1#8 := hc

/-- A byte has one inverse, as the product is associative. -/
theorem eq_ginv_of_gmul_eq_one {a b : Byte} (ha : a ≠ 0) (h : gmul a b = 1#8) : b = ginv a := by
  calc b = gmul (gmul (ginv a) a) b := by rw [gmul_comm (ginv a), gmul_ginv ha, one_gmul]
    _ = ginv a := by rw [gmul_assoc, h, gmul_one]

/-! ## The substitution boxes (R104, R105) -/

/-- The affine map in the formula of SBox (R104). -/
def sboxAffine (b : Byte) : Byte := b ^^^ rotl8 b 1 ^^^ rotl8 b 2 ^^^ rotl8 b 3 ^^^ rotl8 b 4 ^^^ 0x63

theorem sboxAffine_sboxAffineInv : ∀ y : Byte, sboxAffine (sboxAffineInv y) = y := by decide +kernel

/-- The table with the affine map undone is `ginv`, by the uniqueness of the inverse. -/
theorem sbox_eq_sboxFormula (a : Byte) : sbox a = sboxFormula a := by
  change sbox a = sboxAffine (ginv a)
  by_cases ha : a = 0
  · rw [ha, ginv_zero]; rfl
  · rw [← eq_ginv_of_gmul_eq_one ha (gmul_sboxAffineInv_sbox a ha), sboxAffine_sboxAffineInv]

theorem sbox_ne_self : ∀ a : Byte, sbox a ≠ a := by decide +kernel

@[simp] theorem invSbox_sbox : ∀ a : Byte, invSbox (sbox a) = a := by decide +kernel

@[simp] theorem sbox_invSbox : ∀ a : Byte, sbox (invSbox a) = a := by decide +kernel

end Sys2Proof.Machine

namespace Sys2Proof.Proofs

open Sys2Proof Sys2Proof.Machine

/-- Settles O55: the formula by the uniqueness of the inverse, the rest by the two tables. -/
theorem sboxIsTheFormula : Obligations.SboxIsTheFormula :=
  fun a => ⟨sbox_eq_sboxFormula a, sbox_ne_self a, invSbox_sbox a, sbox_invSbox a⟩

/-- Settles O56: the product's laws by induction on how a byte is made, and the inverse from the 256th power. -/
theorem fieldProductAndInverse : Obligations.FieldProductAndInverse :=
  ⟨gmul_comm, fun a => ⟨gmul_one a, gmul_zero a, gmul_two a, gmul_three a⟩, ginv_zero,
    fun _ ha => ⟨gmul_ginv ha, fun _ => eq_ginv_of_gmul_eq_one ha⟩⟩

end Sys2Proof.Proofs

/-! SUPPORT. The round stages (R106 to R112): what each does to the bytes or columns of a block, and that it is undone. -/

namespace Sys2Proof.Machine

/-! ## Bytes of a sequence -/

theorem byteAt_map {f : Byte → Byte} {s : Bytes} {k : Nat} (h : k < s.length) : byteAt (s.map f) k = f (byteAt s k) := by
  simp [byteAt, h]

theorem byteAt_memRead {buf : Bytes} {i n k : Nat} (h : k < n) : byteAt (memRead buf i n) k = byteAt buf (i + k) := by
  simp [byteAt, memRead, h]

theorem byteAt_xorBytes {a b : Bytes} {k : Nat} (ha : k < a.length) (hb : k < b.length) :
    byteAt (xorBytes a b) k = byteAt a k ^^^ byteAt b k := by
  simp [byteAt, xorBytes, ha, hb]

/-- A block is its 16 bytes. -/
theorem map_byteAt_range {s : Bytes} (h : s.length = 16) : (List.range 16).map (byteAt s) = s := by
  refine List.ext_getElem (by simp [h]) fun k h1 h2 => ?_
  simp [byteAt, h2]

/-! ## SubBytes and ShiftRows (R106 to R109) -/

@[simp] theorem invSubBytes_subBytes (s : Bytes) : invSubBytes (subBytes s) = s := by
  simp [invSubBytes, subBytes, Function.comp_def]

@[simp] theorem subBytes_invSubBytes (s : Bytes) : subBytes (invSubBytes s) = s := by
  simp [invSubBytes, subBytes, Function.comp_def]

/-- The index written out is the row rotated left by its number (R108). -/
theorem shiftRowsIndex_getD : ∀ r < 4, ∀ c < 4, shiftRowsIndex.getD (r + 4 * c) 0 = r + 4 * ((c + r) % 4) := by decide

/-- The index written out is the row rotated right by its number (R109). -/
theorem invShiftRowsIndex_getD : ∀ r < 4, ∀ c < 4, invShiftRowsIndex.getD (r + 4 * c) 0 = r + 4 * ((c + 4 - r) % 4) := by
  decide

/-- A byte of a block that is put together by an index list. -/
theorem byteAt_map_byteAt {idx : List Nat} (s : Bytes) {k : Nat} (h : k < idx.length) :
    byteAt (idx.map (byteAt s)) k = byteAt s (idx.getD k 0) := by
  simp [byteAt, h]

theorem byteAt_shiftRows (s : Bytes) {r c : Nat} (hr : r < 4) (hc : c < 4) :
    byteAt (shiftRows s) (r + 4 * c) = byteAt s (r + 4 * ((c + r) % 4)) := by
  have hk : r + 4 * c < shiftRowsIndex.length := by simp only [shiftRowsIndex, List.length]; omega
  rw [shiftRows, byteAt_map_byteAt s hk, shiftRowsIndex_getD r hr c hc]

theorem byteAt_invShiftRows (s : Bytes) {r c : Nat} (hr : r < 4) (hc : c < 4) :
    byteAt (invShiftRows s) (r + 4 * c) = byteAt s (r + 4 * ((c + 4 - r) % 4)) := by
  have hk : r + 4 * c < invShiftRowsIndex.length := by simp only [invShiftRowsIndex, List.length]; omega
  rw [invShiftRows, byteAt_map_byteAt s hk, invShiftRowsIndex_getD r hr c hc]

theorem invShiftRows_shiftRows {s : Bytes} (h : s.length = 16) : invShiftRows (shiftRows s) = s :=
  .trans (b := (List.range 16).map (byteAt s)) rfl (map_byteAt_range h)

theorem shiftRows_invShiftRows {s : Bytes} (h : s.length = 16) : shiftRows (invShiftRows s) = s :=
  .trans (b := (List.range 16).map (byteAt s)) rfl (map_byteAt_range h)

/-! ## MixColumns and InvMixColumns (R110, R111): a column as a polynomial modulo `x^4 + 1` -/

/-- The product of two polynomials of degree 3 modulo `x^4 + 1`, lowest coefficient first. -/
def columnMul (c0 c1 c2 c3 a0 a1 a2 a3 : Byte) : Bytes :=
  [gmul a0 c0 ^^^ gmul a1 c3 ^^^ gmul a2 c2 ^^^ gmul a3 c1,
   gmul a0 c1 ^^^ gmul a1 c0 ^^^ gmul a2 c3 ^^^ gmul a3 c2,
   gmul a0 c2 ^^^ gmul a1 c1 ^^^ gmul a2 c0 ^^^ gmul a3 c3,
   gmul a0 c3 ^^^ gmul a1 c2 ^^^ gmul a2 c1 ^^^ gmul a3 c0]

theorem columnMul_one (a0 a1 a2 a3 : Byte) : columnMul 1 0 0 0 a0 a1 a2 a3 = [a0, a1, a2, a3] := by simp [columnMul]

theorem columnMul_assoc {d0 d1 d2 d3 c0 c1 c2 c3 e0 e1 e2 e3 a0 a1 a2 a3 b0 b1 b2 b3 : Byte}
    (he : columnMul d0 d1 d2 d3 c0 c1 c2 c3 = [e0, e1, e2, e3])
    (hb : columnMul c0 c1 c2 c3 a0 a1 a2 a3 = [b0, b1, b2, b3]) :
    columnMul d0 d1 d2 d3 b0 b1 b2 b3 = columnMul e0 e1 e2 e3 a0 a1 a2 a3 := by
  simp only [columnMul, List.cons.injEq] at he hb
  obtain ⟨rfl, rfl, rfl, rfl, -⟩ := he
  obtain ⟨rfl, rfl, rfl, rfl, -⟩ := hb
  simp only [columnMul, xor_gmul, gmul_xor, gmul_assoc]
  ac_rfl

theorem mixColumn_eq_columnMul (a0 a1 a2 a3 : Byte) : mixColumn a0 a1 a2 a3 = columnMul 2 1 1 3 a0 a1 a2 a3 := by
  simp [mixColumn, columnMul]

theorem invMixColumn_eq_columnMul (a0 a1 a2 a3 : Byte) :
    invMixColumn a0 a1 a2 a3 = columnMul 0x0e 0x09 0x0d 0x0b a0 a1 a2 a3 := rfl

/-- The product of one polynomial with each column. -/
def mulColumns (c0 c1 c2 c3 : Byte) : Bytes → Bytes
  | a0 :: a1 :: a2 :: a3 :: rest => columnMul c0 c1 c2 c3 a0 a1 a2 a3 ++ mulColumns c0 c1 c2 c3 rest
  | _ => []

theorem mixColumns_eq_mulColumns (s : Bytes) : mixColumns s = mulColumns 2 1 1 3 s := by
  induction s using mixColumns.induct with
  | case1 a0 a1 a2 a3 rest ih => rw [mixColumns, mulColumns, ih, mixColumn_eq_columnMul]
  | case2 s hs => rw [mixColumns, mulColumns] <;> exact hs

theorem invMixColumns_eq_mulColumns (s : Bytes) : invMixColumns s = mulColumns 0x0e 0x09 0x0d 0x0b s := by
  induction s using invMixColumns.induct with
  | case1 a0 a1 a2 a3 rest ih => rw [invMixColumns, mulColumns, ih, invMixColumn_eq_columnMul]
  | case2 s hs => rw [invMixColumns, mulColumns] <;> exact hs

/-- What has no first column has fewer than four bytes. -/
theorem length_lt_four {s : Bytes} (hs : ∀ a0 a1 a2 a3 rest, s = a0 :: a1 :: a2 :: a3 :: rest → False) : s.length < 4 := by
  match s with
  | [] | [_] | [_, _] | [_, _, _] => simp
  | a0 :: a1 :: a2 :: a3 :: rest => exact (hs a0 a1 a2 a3 rest rfl).elim

theorem eq_nil_of_length_mod_four {s : Bytes} (hs : ∀ a0 a1 a2 a3 rest, s = a0 :: a1 :: a2 :: a3 :: rest → False)
    (h : s.length % 4 = 0) : s = [] :=
  List.length_eq_zero_iff.mp (Nat.mod_eq_of_lt (length_lt_four hs) ▸ h)

section
variable {c0 c1 c2 c3 : Byte}

theorem mulColumns_length {s : Bytes} (h : s.length % 4 = 0) : (mulColumns c0 c1 c2 c3 s).length = s.length := by
  induction s using mulColumns.induct with
  | case1 a0 a1 a2 a3 rest ih =>
    simp only [List.length_cons] at h
    simp [mulColumns, columnMul, ih (by omega)]
  | case2 s hs =>
    obtain rfl := eq_nil_of_length_mod_four hs h
    rfl

/-- A column of the result is the product with that column. -/
theorem memRead_mulColumns {s : Bytes} {k : Nat} {a0 a1 a2 a3 : Byte} (h : memRead s (4 * k) 4 = [a0, a1, a2, a3]) :
    memRead (mulColumns c0 c1 c2 c3 s) (4 * k) 4 = columnMul c0 c1 c2 c3 a0 a1 a2 a3 := by
  induction s using mulColumns.induct generalizing k with
  | case1 b0 b1 b2 b3 rest ih =>
    cases k with
    | zero =>
      obtain ⟨rfl, rfl, rfl, rfl⟩ : b0 = a0 ∧ b1 = a1 ∧ b2 = a2 ∧ b3 = a3 := by simpa [memRead] using h
      rfl
    | succ k => exact ih h
  | case2 s hs =>
    have h4 : min 4 (s.length - 4 * k) = 4 := by simpa using congrArg List.length h
    have := length_lt_four hs
    omega

/-- Where the product of two polynomials is 1, each undoes the other on every column. -/
theorem mulColumns_cancel {d0 d1 d2 d3 : Byte} (he : columnMul d0 d1 d2 d3 c0 c1 c2 c3 = [1, 0, 0, 0]) {s : Bytes}
    (h : s.length % 4 = 0) : mulColumns d0 d1 d2 d3 (mulColumns c0 c1 c2 c3 s) = s := by
  induction s using mulColumns.induct with
  | case1 a0 a1 a2 a3 rest ih =>
    obtain ⟨b0, b1, b2, b3, hb⟩ : ∃ b0 b1 b2 b3, columnMul c0 c1 c2 c3 a0 a1 a2 a3 = [b0, b1, b2, b3] :=
      ⟨_, _, _, _, rfl⟩
    simp only [List.length_cons] at h
    calc mulColumns d0 d1 d2 d3 (mulColumns c0 c1 c2 c3 (a0 :: a1 :: a2 :: a3 :: rest))
        = columnMul d0 d1 d2 d3 b0 b1 b2 b3 ++ mulColumns d0 d1 d2 d3 (mulColumns c0 c1 c2 c3 rest) := by
          rw [mulColumns, hb]; rfl
      _ = [a0, a1, a2, a3] ++ rest := by rw [columnMul_assoc he hb, columnMul_one, ih (by omega)]
  | case2 s hs =>
    obtain rfl := eq_nil_of_length_mod_four hs h
    rfl

end

theorem mixColumns_length {s : Bytes} (h : s.length % 4 = 0) : (mixColumns s).length = s.length := by
  rw [mixColumns_eq_mulColumns, mulColumns_length h]

theorem invMixColumns_length {s : Bytes} (h : s.length % 4 = 0) : (invMixColumns s).length = s.length := by
  rw [invMixColumns_eq_mulColumns, mulColumns_length h]

theorem memRead_mixColumns {s : Bytes} {k : Nat} {a0 a1 a2 a3 : Byte} (h : memRead s (4 * k) 4 = [a0, a1, a2, a3]) :
    memRead (mixColumns s) (4 * k) 4 = mixColumn a0 a1 a2 a3 := by
  rw [mixColumns_eq_mulColumns, memRead_mulColumns h, mixColumn_eq_columnMul]

theorem memRead_invMixColumns {s : Bytes} {k : Nat} {a0 a1 a2 a3 : Byte}
    (h : memRead s (4 * k) 4 = [a0, a1, a2, a3]) : memRead (invMixColumns s) (4 * k) 4 = invMixColumn a0 a1 a2 a3 := by
  rw [invMixColumns_eq_mulColumns, memRead_mulColumns h, invMixColumn_eq_columnMul]

theorem invMixColumns_mixColumns {s : Bytes} (h : s.length % 4 = 0) : invMixColumns (mixColumns s) = s := by
  rw [invMixColumns_eq_mulColumns, mixColumns_eq_mulColumns, mulColumns_cancel (by decide) h]

theorem mixColumns_invMixColumns {s : Bytes} (h : s.length % 4 = 0) : mixColumns (invMixColumns s) = s := by
  rw [invMixColumns_eq_mulColumns, mixColumns_eq_mulColumns, mulColumns_cancel (by decide) h]

/-! ## AddRoundKey (R112) -/

theorem addRoundKey_length {s ks : Bytes} {r : Nat} (hs : s.length = 16) (hk : ks.length = 240) (hr : r ≤ 14) :
    (addRoundKey s ks r).length = 16 := by
  rw [addRoundKey, xorBytes_length, roundKey_length ks r hk hr, hs, Nat.min_self]

theorem byteAt_addRoundKey {s ks : Bytes} {r k : Nat} (hs : s.length = 16) (hk : ks.length = 240) (hr : r ≤ 14)
    (h : k < 16) : byteAt (addRoundKey s ks r) k = byteAt s k ^^^ byteAt ks (16 * r + k) := by
  rw [addRoundKey, byteAt_xorBytes (hs ▸ h) (roundKey_length ks r hk hr ▸ h), roundKey, byteAt_memRead h]

end Sys2Proof.Machine

namespace Sys2Proof.Proofs

open Sys2Proof Sys2Proof.Machine

/-- Settles O57: stage by stage; MixColumns and its inverse multiply a column by two polynomials whose product is 1. -/
theorem roundStagesInvert : Obligations.RoundStagesInvert := by
  intro s hs
  have h4 : s.length % 4 = 0 := by rw [hs]
  refine ⟨fun k hk => ⟨byteAt_map (hs ▸ hk), byteAt_map (hs ▸ hk)⟩,
    fun r c hr hc => ⟨byteAt_shiftRows s hr hc, byteAt_invShiftRows s hr hc⟩,
    fun c a0 a1 a2 a3 _ h => ⟨memRead_mixColumns h, memRead_invMixColumns h⟩,
    invSubBytes_subBytes s, subBytes_invSubBytes s, invShiftRows_shiftRows hs, shiftRows_invShiftRows hs,
    invMixColumns_mixColumns h4, mixColumns_invMixColumns h4, fun ks r hk hr => ?_⟩
  exact ⟨fun k h => byteAt_addRoundKey hs hk hr h, addRoundKey_cancel s ks r hs hk hr⟩

end Sys2Proof.Proofs

/-! SUPPORT. The rounds of EncryptBlock and DecryptBlock (R116 to R118), and the words of the key schedule (R115). Decryption
meets the stages of a round in another grouping than encryption: what passes from round to round is the state after SubBytes
and ShiftRows. -/

namespace Sys2Proof.Machine

theorem encryptBlock_eq (ks b : Bytes) :
    encryptBlock ks b = addRoundKey (shiftRows (subBytes (encryptRounds ks 13 1 (addRoundKey b ks 0)))) ks 14 := by
  unfold encryptBlock
  rfl

theorem decryptBlock_eq (ks b : Bytes) :
    decryptBlock ks b = addRoundKey (invSubBytes (invShiftRows (decryptRounds ks 13 (addRoundKey b ks 14)))) ks 0 := by
  unfold decryptBlock
  rfl

/-! ## The rounds as a sequence of states -/

theorem encryptRounds_of_sequence {ks : Bytes} {s : Nat → Bytes}
    (h : ∀ r, 1 ≤ r → r ≤ 13 → s r = encryptRound ks r (s (r - 1))) (n r : Nat) (hn : r + n ≤ 13) :
    encryptRounds ks n (r + 1) (s r) = s (r + n) := by
  induction n generalizing r with
  | zero => rfl
  | succ n ih =>
    have hr : encryptRound ks (r + 1) (s r) = s (r + 1) := (h (r + 1) (by omega) (by omega)).symm
    rw [encryptRounds, hr, ih (r + 1) (by omega), Nat.add_right_comm, Nat.add_assoc]

theorem decryptRounds_of_sequence {ks : Bytes} {s : Nat → Bytes}
    (h : ∀ r, 1 ≤ r → r ≤ 13 → s r = decryptRound ks r (s (r + 1))) (n : Nat) (hn : n ≤ 13) :
    decryptRounds ks n (s (n + 1)) = s 1 := by
  induction n with
  | zero => rfl
  | succ n ih => rw [decryptRounds, ← h (n + 1) (by omega) hn, ih (by omega)]

/-- The last round comes off as the first does. -/
theorem encryptRounds_succ (ks : Bytes) (n r : Nat) (s : Bytes) :
    encryptRounds ks (n + 1) r s = encryptRound ks (r + n) (encryptRounds ks n r s) := by
  induction n generalizing r s with
  | zero => rfl
  | succ n ih => rw [encryptRounds, ih, encryptRounds, Nat.add_right_comm, Nat.add_assoc]

/-! ## Each round undone -/

section
variable {ks : Bytes} (hk : ks.length = 240)
include hk

theorem encryptRound_length {r : Nat} (hr : r ≤ 14) (s : Bytes) : (encryptRound ks r s).length = 16 := by
  have h : (mixColumns (shiftRows (subBytes s))).length = 16 := by simp [mixColumns_length]
  exact addRoundKey_length h hk hr

theorem decryptRound_length {r : Nat} (hr : r ≤ 14) (s : Bytes) : (decryptRound ks r s).length = 16 := by
  have h : (addRoundKey (invSubBytes (invShiftRows s)) ks r).length = 16 := addRoundKey_length (by simp) hk hr
  rw [decryptRound, invMixColumns_length (by rw [h]), h]

theorem decryptRound_encryptRound {r : Nat} (hr : r ≤ 14) (s : Bytes) :
    decryptRound ks r (shiftRows (subBytes (encryptRound ks r s))) = shiftRows (subBytes s) := by
  have h : (mixColumns (shiftRows (subBytes s))).length = 16 := by simp [mixColumns_length]
  rw [decryptRound, invShiftRows_shiftRows (by simp [encryptRound_length hk hr]), invSubBytes_subBytes, encryptRound,
    addRoundKey_cancel _ ks r h hk hr, invMixColumns_mixColumns (by simp)]

theorem encryptRound_decryptRound {r : Nat} (hr : r ≤ 14) (s : Bytes) :
    encryptRound ks r (invSubBytes (invShiftRows (decryptRound ks r s))) = invSubBytes (invShiftRows s) := by
  have h : (addRoundKey (invSubBytes (invShiftRows s)) ks r).length = 16 := addRoundKey_length (by simp) hk hr
  rw [encryptRound, subBytes_invSubBytes, shiftRows_invShiftRows (decryptRound_length hk hr s), decryptRound,
    mixColumns_invMixColumns (by rw [h]), addRoundKey_cancel _ ks r (by simp) hk hr]

theorem decryptRounds_encryptRounds (n : Nat) (hn : n ≤ 14) (s : Bytes) :
    decryptRounds ks n (shiftRows (subBytes (encryptRounds ks n 1 s))) = shiftRows (subBytes s) := by
  induction n with
  | zero => rfl
  | succ n ih =>
    rw [encryptRounds_succ, Nat.add_comm 1 n, decryptRounds, decryptRound_encryptRound hk hn, ih (by omega)]

theorem encryptRounds_decryptRounds (n : Nat) (hn : n ≤ 14) (s : Bytes) :
    encryptRounds ks n 1 (invSubBytes (invShiftRows (decryptRounds ks n s))) = invSubBytes (invShiftRows s) := by
  induction n generalizing s with
  | zero => rfl
  | succ n ih =>
    rw [encryptRounds_succ, Nat.add_comm 1 n, decryptRounds, ih (by omega), encryptRound_decryptRound hk hn]

/-! ## The block functions undo each other (R124) -/

theorem decryptBlock_encryptBlock {b : Bytes} (hb : b.length = 16) : decryptBlock ks (encryptBlock ks b) = b := by
  have hs : (addRoundKey b ks 0).length = 16 := addRoundKey_length hb hk (by omega)
  rw [decryptBlock_eq, encryptBlock_eq, addRoundKey_cancel _ ks 14 (by simp) hk (by omega),
    decryptRounds_encryptRounds hk 13 (by omega), invShiftRows_shiftRows (by simp [hs]), invSubBytes_subBytes,
    addRoundKey_cancel b ks 0 hb hk (by omega)]

theorem encryptBlock_decryptBlock {b : Bytes} (hb : b.length = 16) : encryptBlock ks (decryptBlock ks b) = b := by
  have hs : (addRoundKey b ks 14).length = 16 := addRoundKey_length hb hk (by omega)
  rw [decryptBlock_eq, encryptBlock_eq, addRoundKey_cancel _ ks 0 (by simp) hk (by omega),
    encryptRounds_decryptRounds hk 13 (by omega), subBytes_invSubBytes, shiftRows_invShiftRows hs,
    addRoundKey_cancel b ks 14 hb hk (by omega)]

end

/-- The AES-256 vector that FIPS 197 publishes (R124 (b)). -/
theorem encryptBlock_published :
    encryptBlock (expandKey ((List.range 32).map (BitVec.ofNat 8)))
        ((List.range 16).map fun k => BitVec.ofNat 8 (0x11 * k)) =
      [0x8e, 0xa2, 0xb7, 0xca, 0x51, 0x67, 0x45, 0xbf, 0xea, 0xfc, 0x49, 0x90, 0x4b, 0x49, 0x60, 0x89] := by
  decide +kernel

/-! ## The key schedule (R115) -/

/-- The words given stay in front, and one is made per step. -/
theorem expandWords_eq_append (n : Nat) (ws : List Bytes) :
    ∃ more, more.length = n ∧ expandWords n ws = ws ++ more := by
  induction n generalizing ws with
  | zero => exact ⟨[], rfl, (List.append_nil ws).symm⟩
  | succ n ih =>
    obtain ⟨more, hm, he⟩ := ih (ws ++ [nextWord ws])
    exact ⟨nextWord ws :: more, by simp [hm], by rw [expandWords, he, List.append_assoc]; rfl⟩

theorem expandWords_length (n : Nat) (ws : List Bytes) : (expandWords n ws).length = ws.length + n := by
  obtain ⟨more, hm, he⟩ := expandWords_eq_append n ws
  rw [he, List.length_append, hm]

theorem expandWords_getD_of_lt {i : Nat} {ws : List Bytes} (n : Nat) (h : i < ws.length) :
    (expandWords n ws).getD i [] = ws.getD i [] := by
  obtain ⟨more, -, he⟩ := expandWords_eq_append n ws
  rw [he, List.getD_append _ _ _ _ h]

/-- The recurrence of R115. -/
theorem expandWords_getD {n i : Nat} {ws : List Bytes} (h0 : 0 < ws.length) (hi : ws.length ≤ i)
    (hn : i < ws.length + n) :
    (expandWords n ws).getD i [] =
      xorBytes ((expandWords n ws).getD (i - 8) []) (scheduleMix i ((expandWords n ws).getD (i - 1) [])) := by
  induction n generalizing ws with
  | zero => omega
  | succ n ih =>
    rw [expandWords]
    obtain rfl | hlt : ws.length = i ∨ ws.length < i := Nat.eq_or_lt_of_le hi
    · have hw (j : Nat) (hj : j < ws.length) : (expandWords n (ws ++ [nextWord ws])).getD j [] = ws.getD j [] := by
        rw [expandWords_getD_of_lt n (by simp; omega), List.getD_append _ _ _ _ hj]
      rw [hw (ws.length - 8) (by omega), hw (ws.length - 1) (by omega), expandWords_getD_of_lt n (by simp),
        List.getD_append_right _ _ _ _ (Nat.le_refl _), Nat.sub_self]
      rfl
    · exact ih (by simp) (by simpa using hlt) (by simp; omega)

theorem scheduleMix_length {t : Bytes} (i : Nat) (h : t.length = 4) : (scheduleMix i t).length = 4 := by
  have hr : (rotWord t).length = 4 := by
    cases t with
    | nil => simp at h
    | cons b rest => simpa [rotWord] using h
  unfold scheduleMix
  split
  · simp [subWord, hr]
  · split
    · simp [subWord, h]
    · exact h

theorem nextWord_length {ws : List Bytes} (h0 : 8 ≤ ws.length) (h : ∀ w ∈ ws, w.length = 4) :
    (nextWord ws).length = 4 := by
  have hw (i : Nat) (hi : i < ws.length) : (ws.getD i []).length = 4 := by
    rw [List.getD_eq_getElem _ _ hi]
    exact h _ (List.getElem_mem hi)
  rw [nextWord, xorBytes_length, scheduleMix_length _ (hw _ (by omega)), hw _ (by omega), Nat.min_self]

theorem expandWords_word_length {ws : List Bytes} (n : Nat) (h0 : 8 ≤ ws.length) (h : ∀ w ∈ ws, w.length = 4) :
    ∀ w ∈ expandWords n ws, w.length = 4 := by
  induction n generalizing ws with
  | zero => exact h
  | succ n ih =>
    refine ih (by simp; omega) fun w hw => ?_
    obtain hw | hw := List.mem_append.mp hw
    · exact h w hw
    · rw [List.mem_singleton.mp hw]
      exact nextWord_length h0 h

/-- A word of a schedule that is made of words of four bytes (R37). -/
theorem memRead_flatten {ws : List Bytes} (h : ∀ w ∈ ws, w.length = 4) (i : Nat) :
    memRead ws.flatten (4 * i) 4 = ws.getD i [] := by
  induction ws generalizing i with
  | nil => simp [memRead]
  | cons w ws ih =>
    have hw : w.length = 4 := h w List.mem_cons_self
    have hws := ih fun v hv => h v (List.mem_cons_of_mem w hv)
    cases i with
    | zero => simp [memRead, ← hw]
    | succ i =>
      rw [List.getD_cons_succ, ← hws i, List.flatten_cons]
      have h4 : 4 * (i + 1) = w.length + 4 * i := by omega
      rw [memRead, h4, ← List.drop_drop, List.drop_left, memRead]

theorem flatten_length_of_words {ws : List Bytes} (h : ∀ w ∈ ws, w.length = 4) : ws.flatten.length = 4 * ws.length := by
  rw [List.length_flatten, List.map_congr_left h]
  simp [Nat.mul_comm]

@[simp] theorem keyWordsOf_length (key : Bytes) : (keyWordsOf key).length = 8 := by simp [keyWordsOf]

/-- The first `n` words of a key are its first bytes. -/
theorem map_memRead_flatten (key : Bytes) (n : Nat) :
    ((List.range n).map fun i => memRead key (4 * i) 4).flatten = key.take (4 * n) := by
  induction n with
  | zero => rfl
  | succ n ih =>
    rw [List.range_succ, List.map_append, List.flatten_append, ih, Nat.mul_succ, List.take_add]
    simp [memRead]

section
variable {key : Bytes} (h : key.length = 32)
include h

theorem keyWordsOf_flatten : (keyWordsOf key).flatten = key := by
  rw [keyWordsOf, map_memRead_flatten, List.take_of_length_le (by simp [h, Config.keyWords])]

theorem keyWordsOf_word_length : ∀ w ∈ keyWordsOf key, w.length = 4 := by
  intro w hw
  simp only [keyWordsOf, Config.keyWords, List.mem_map, List.mem_range] at hw
  obtain ⟨i, hi, rfl⟩ := hw
  rw [memRead_length, h]
  omega

/-- The whole schedule is 60 words of four bytes. -/
theorem expandKey_word_length : ∀ w ∈ expandWords 52 (keyWordsOf key), w.length = 4 :=
  expandWords_word_length 52 (by rw [keyWordsOf_length]) (keyWordsOf_word_length h)

theorem expandKey_length : (expandKey key).length = 240 := by
  rw [expandKey, flatten_length_of_words (expandKey_word_length h), expandWords_length, keyWordsOf_length]

theorem expandKey_take : (expandKey key).take 32 = key := by
  obtain ⟨more, -, he⟩ := expandWords_eq_append 52 (keyWordsOf key)
  rw [expandKey, he, List.flatten_append, keyWordsOf_flatten h, ← h, List.take_left]

theorem memRead_expandKey (i : Nat) :
    memRead (expandKey key) (4 * i) 4 = (expandWords 52 (keyWordsOf key)).getD i [] := by
  rw [expandKey, memRead_flatten (expandKey_word_length h)]

end

end Sys2Proof.Machine

namespace Sys2Proof.Proofs

open Sys2Proof Sys2Proof.Machine

/-- Settles O54: the rounds by their sequences of states; what decryption undoes is one round at a time. -/
theorem blockCipherInverse : Obligations.BlockCipherInverse := by
  refine ⟨fun ks b s h0 h => ?_, fun ks b s h14 h => ?_,
    fun ks b hk hb => ⟨decryptBlock_encryptBlock hk hb, encryptBlock_decryptBlock hk hb⟩, encryptBlock_published⟩
  · rw [encryptBlock_eq, ← h0, encryptRounds_of_sequence h 13 0 (Nat.le_refl _)]
  · rw [decryptBlock_eq, ← h14, decryptRounds_of_sequence h 13 (Nat.le_refl _)]

/-- Settles O58: the words of the schedule are those of `expandWords`. -/
theorem keyScheduleRecurrence : Obligations.KeyScheduleRecurrence := by
  intro key w hk hw
  refine ⟨expandKey_length hk, expandKey_take hk, fun i h8 hi => ?_⟩
  simp only [hw, memRead_expandKey hk]
  exact expandWords_getD (by simp) (by simpa using h8) (by simpa using hi)

end Sys2Proof.Proofs

/-! SUPPORT. The commands of the Block Cipher Core (R120 to R123), and those that write their result only. -/

namespace Sys2Proof.Machine

theorem blockResult_of_block {f : Bytes → Bytes → Bytes} {s : State} (hv : s.ksValid = true)
    (hl : s.inBuf.length = 16) : blockResult f s = .ok (f s.ks s.inBuf) := by
  simp [blockResult, hv, hl]

theorem blockResult_of_no_schedule {f : Bytes → Bytes → Bytes} {s : State} (hv : s.ksValid = false) :
    blockResult f s = .error .noSchedule := by
  simp [blockResult, hv]

theorem blockResult_of_no_block {f : Bytes → Bytes → Bytes} {s : State} (hv : s.ksValid = true)
    (hl : s.inBuf.length ≠ 16) : blockResult f s = .error .invalidInputLength := by
  simp [blockResult, hv, hl]

/-- A command that writes its result only has a rule that leaves the state alone: only ISO10126 padding draws (R154). -/
theorem ruleOf_state_of_writesResultOnly {i : Instr} (h : writesResultOnly i = true) (s : State) : (ruleOf i s).1 = s := by
  cases i with
  | kexp | kclr | padIso10126 | ivre | ivrd | aeseX | aeseF | aeseXB64 | aeseFB64 | aesdX | aesdF | aesdXB64 | aesdFB64 =>
    simp [writesResultOnly] at h
  | _ => rfl

theorem isFacade_of_writesResultOnly {i : Instr} (h : writesResultOnly i = true) : isFacade i = false := by
  cases i with
  | aeseX | aeseF | aeseXB64 | aeseFB64 | aesdX | aesdF | aesdXB64 | aesdFB64 => simp [writesResultOnly] at h
  | _ => rfl

/-- A command that is no facade command and whose rule only draws writes OUTBUF, ERRCODE, DONE and the random source. -/
theorem exec_next_of_drawn {i : Instr} {s t : State} {n : Nat} (h : exec i s = .next t) (hf : isFacade i = false)
    (hr : (ruleOf i s).1 = s.drawn n) :
    t = { s.drawn n with outBuf := t.outBuf, errCode := t.errCode, done := true, scratch := Scratch.zero } := by
  obtain ⟨u, res, hu, rfl⟩ | ⟨u, k, hu, rfl⟩ := exec_next h
  · obtain rfl : u = s.drawn n := by simpa [hu] using hr
    rfl
  · obtain rfl : u = s.drawn n := by simpa [hu] using hr
    rw [hf]
    rfl

end Sys2Proof.Machine

namespace Sys2Proof.Proofs

open Sys2Proof Sys2Proof.Machine

/-- Settles O52: the rules of these commands change nothing, or take a draw. -/
theorem resultOnlyCommandsFrame : Obligations.ResultOnlyCommandsFrame := by
  intro i s t h
  refine ⟨fun hw => ?_, ?_⟩
  · exact exec_next_of_drawn (n := 0) h (isFacade_of_writesResultOnly hw) (ruleOf_state_of_writesResultOnly hw s)
  · rintro rfl
    have ht := exec_next_of_drawn (n := padDraw .iso10126 s.inBuf.length) h rfl rfl
    rw [ht]
    rfl

/-- Settles O15: by the length of KEYBUF. -/
theorem kexpExpandsTheKey : Obligations.KexpExpandsTheKey :=
  ⟨decode_encode .kexp, fun s =>
    ⟨fun h => runCommand_of_ok false kexpRule s s.expandKeys [] (by simp [kexpRule, h]),
      fun h => runCommand_of_error false kexpRule s s .invalidKeyLength (by simp [kexpRule, h])⟩⟩

/-- Settles O16: by the two checks of the rule, for either block function. -/
theorem encbAndDecbCryptOneBlock : Obligations.EncbAndDecbCryptOneBlock :=
  ⟨decode_encode .encb, decode_encode .decb, fun _ =>
    ⟨fun hv hl => ⟨runPure_of_ok _ _ _ (blockResult_of_block hv hl), runPure_of_ok _ _ _ (blockResult_of_block hv hl)⟩,
      fun hv => ⟨runPure_of_error _ _ _ (blockResult_of_no_schedule hv),
        runPure_of_error _ _ _ (blockResult_of_no_schedule hv)⟩,
      fun hv hl => ⟨runPure_of_error _ _ _ (blockResult_of_no_block hv hl),
        runPure_of_error _ _ _ (blockResult_of_no_block hv hl)⟩⟩⟩

/-- Settles O17: its rule has no check, and destroys the schedule. -/
theorem kclrDestroysTheSchedule : Obligations.KclrDestroysTheSchedule :=
  ⟨decode_encode .kclr, fun s => runCommand_of_ok false kclrRule s s.destroySchedule [] rfl⟩

end Sys2Proof.Proofs

/-! SUPPORT. The Padding Engine (R140 to R157): what Unpad answers on data of each form, and what Pad appends. -/

namespace Sys2Proof.Machine

/-! ## The count in the last byte -/

/-- Data, a fill, and the number of bytes after the data: the form of R149, R151 and R152, which differ in the fill. -/
def withCount (d fill : Bytes) : Bytes := d ++ fill ++ [countByte (fill.length + 1)]

theorem withCount_split (d fill : Bytes) : withCount d fill = d ++ (fill ++ [countByte (fill.length + 1)]) :=
  List.append_assoc ..

theorem withCount_length_sub (d fill : Bytes) : (withCount d fill).length - (fill.length + 1) = d.length := by
  simp [withCount]

@[simp] theorem withCount_take (d fill : Bytes) :
    (withCount d fill).take ((withCount d fill).length - (fill.length + 1)) = d := by
  rw [withCount_length_sub, withCount_split, List.take_left]

@[simp] theorem withCount_drop (d fill : Bytes) :
    (withCount d fill).drop ((withCount d fill).length - (fill.length + 1)) = fill ++ [countByte (fill.length + 1)] := by
  rw [withCount_length_sub, withCount_split, List.drop_left]

theorem lastCount_withCount (d : Bytes) {fill : Bytes} (h : fill.length ≤ 15) :
    lastCount (withCount d fill) = .ok (fill.length + 1) := by
  have hc := countByte_toNat (fill.length + 1) (by omega)
  simp [lastCount, withCount, hc, Config.blockBytes]
  omega

/-- Aligned data either ends in a count of 1 to 16, which many bytes it then has, or is refused (R147 check 2). -/
theorem lastCount_cases {y : Bytes} (h : y.length % 16 = 0) :
    (∃ d fill, fill.length ≤ 15 ∧ y = withCount d fill) ∨ lastCount y = .error .invalidPadding := by
  rcases List.eq_nil_or_concat' y with rfl | ⟨l, b, rfl⟩
  · exact .inr rfl
  · by_cases hb : b.toNat < 1 ∨ b.toNat > 16
    · exact .inr (by simp only [lastCount, List.getLast?_concat, Config.blockBytes, if_pos hb])
    · have hl : (l.drop (l.length - (b.toNat - 1))).length + 1 = b.toNat := by simp at h ⊢; omega
      refine .inl ⟨l.take (l.length - (b.toNat - 1)), l.drop (l.length - (b.toNat - 1)), by omega, ?_⟩
      rw [withCount, hl, List.take_append_drop, countByte, BitVec.ofNat_toNat, BitVec.setWidth_eq]

theorem all_eq_iff_replicate {v : Byte} {l : Bytes} : l.all (· == v) = true ↔ l = List.replicate l.length v := by
  simp [List.eq_replicate_iff]

theorem append_replicate_count (d : Bytes) (n : Nat) :
    d ++ List.replicate (n + 1) (countByte (n + 1)) = withCount d (List.replicate n (countByte (n + 1))) := by
  simp [withCount, List.replicate_succ']

theorem append_zeros_count (d : Bytes) (n : Nat) :
    d ++ List.replicate n 0x00 ++ [countByte (n + 1)] = withCount d (List.replicate n 0x00) := by
  simp [withCount]

/-! ## Unpad of data with a count -/

theorem unpadPkcs7_withCount (d : Bytes) {fill : Bytes} (h : fill.length ≤ 15) :
    unpadPkcs7 (withCount d fill) =
      if fill.all (· == countByte (fill.length + 1)) then .ok d else .error .invalidPadding := by
  simp [unpadPkcs7, lastCount_withCount d h, bind, Except.bind]

theorem unpadAnsi923_withCount (d : Bytes) {fill : Bytes} (h : fill.length ≤ 15) :
    unpadAnsi923 (withCount d fill) = if fill.all (· == 0x00) then .ok d else .error .invalidPadding := by
  simp [unpadAnsi923, lastCount_withCount d h, bind, Except.bind, memRead]

theorem unpadIso10126_withCount (d : Bytes) {fill : Bytes} (h : fill.length ≤ 15) :
    unpadIso10126 (withCount d fill) = .ok d := by
  simp [unpadIso10126, lastCount_withCount d h, bind, Except.bind]

/-! ## The marker of ISO7816_4 -/

theorem markerScan_cons (k : Nat) (b : Byte) (x : Bytes) :
    markerScan (k + 1) (b :: x) =
      if b = 0x80 then .ok x else if b ≠ 0x00 then .error .invalidPadding else markerScan k x := rfl

theorem markerScan_marker {k z : Nat} (h : z < k) (rest : Bytes) :
    markerScan k (List.replicate z 0x00 ++ 0x80 :: rest) = .ok rest := by
  induction k generalizing z with
  | zero => omega
  | succ k ih =>
    cases z with
    | zero => rfl
    | succ z => exact ih (by omega)

/-- The scan finds the marker behind fewer than `k` zeros, or fails (R150). -/
theorem markerScan_cases (k : Nat) (x : Bytes) :
    (∃ z rest, z < k ∧ x = List.replicate z 0x00 ++ 0x80 :: rest) ∨ markerScan k x = .error .invalidPadding := by
  induction k generalizing x with
  | zero => exact .inr rfl
  | succ k ih =>
    cases x with
    | nil => exact .inr rfl
    | cons b x =>
      rw [markerScan_cons]
      by_cases h80 : b = 0x80
      · exact .inl ⟨0, x, by omega, by rw [h80]; rfl⟩
      · by_cases h0 : b = 0x00
        · obtain ⟨z, rest, hz, rfl⟩ | he := ih x
          · exact .inl ⟨z + 1, rest, by omega, by rw [h0]; rfl⟩
          · exact .inr (by rw [if_neg h80, if_neg (not_not_intro h0), he])
        · exact .inr (by rw [if_neg h80, if_pos h0])

theorem unpadIso7816_marker (d : Bytes) {z : Nat} (h : z ≤ 15) :
    unpadIso7816 (d ++ [0x80] ++ List.replicate z 0x00) = .ok d := by
  have hr : (d ++ [0x80] ++ List.replicate z 0x00).reverse = List.replicate z 0x00 ++ 0x80 :: d.reverse := by simp
  rw [unpadIso7816, hr, markerScan_marker (Nat.lt_succ_of_le h)]
  exact congrArg Except.ok d.reverse_reverse

theorem unpadIso7816_cases (y : Bytes) :
    (∃ d z, z ≤ 15 ∧ y = d ++ [0x80] ++ List.replicate z 0x00) ∨ unpadIso7816 y = .error .invalidPadding := by
  obtain ⟨z, rest, hz, hy⟩ | he := markerScan_cases Config.blockBytes y.reverse
  · exact .inl ⟨rest.reverse, z, Nat.le_of_lt_succ hz, by simpa using congrArg List.reverse hy⟩
  · exact .inr (by rw [unpadIso7816, he]; rfl)

/-! ## Trailing zeros -/

theorem unpadZero_append_zeros (d : Bytes) (z : Nat) : unpadZero (d ++ List.replicate z 0x00) = unpadZero d := by
  simp [unpadZero]

theorem unpadZero_eq_self_iff (d : Bytes) : unpadZero d = d ↔ d.getLast? ≠ some 0x00 := by
  rw [show unpadZero d = d.rdropWhile (· == 0x00) from rfl, List.rdropWhile_eq_self_iff]
  rcases List.eq_nil_or_concat' d with rfl | ⟨l, b, rfl⟩ <;> simp

/-- What `unpadZero` keeps ends in no zero byte, and only zeros followed it. -/
theorem unpadZero_splits (y : Bytes) :
    (unpadZero y).getLast? ≠ some 0x00 ∧ ∃ z, y = unpadZero y ++ List.replicate z 0x00 := by
  have hz : y.rtakeWhile (· == 0x00) = List.replicate (y.rtakeWhile (· == 0x00)).length 0x00 :=
    all_eq_iff_replicate.mp (List.all_eq_true.mpr fun _ => List.mem_rtakeWhile_imp (p := (· == 0x00)))
  exact ⟨(unpadZero_eq_self_iff _).mp (List.rdropWhile_idempotent _ y), _,
    (List.rdropWhile_append_rtakeWhile ..).symm.trans (congrArg _ hz)⟩

/-! ## Unpad, scheme by scheme -/

/-- `y` is data `d` and a padding that Unpad accepts for the scheme (R148 to R153). -/
def PaddedAs : Scheme → Bytes → Bytes → Prop
  | .none, d, y => y = d
  | .pkcs7, d, y => ∃ n, 1 ≤ n ∧ n ≤ 16 ∧ y = d ++ List.replicate n (countByte n)
  | .iso7816_4, d, y => ∃ z, z ≤ 15 ∧ y = d ++ [0x80] ++ List.replicate z 0x00
  | .ansi923, d, y => ∃ n, 1 ≤ n ∧ n ≤ 16 ∧ y = d ++ List.replicate (n - 1) 0x00 ++ [countByte n]
  | .iso10126, d, y => ∃ fill : Bytes, fill.length ≤ 15 ∧ y = withCount d fill
  | .zero, d, y => d.getLast? ≠ some 0x00 ∧ ∃ z, y = d ++ List.replicate z 0x00

/-- Each scheme's own rule, which the alignment check precedes (R147). -/
def unpadAligned : Scheme → Bytes → Except ErrorKind Bytes
  | .none => .ok
  | .pkcs7 => unpadPkcs7
  | .iso7816_4 => unpadIso7816
  | .ansi923 => unpadAnsi923
  | .iso10126 => unpadIso10126
  | .zero => fun y => .ok (unpadZero y)

theorem unpadData_of_unaligned (p : Scheme) {y : Bytes} (h : y.length % 16 ≠ 0) :
    unpadData p y = .error .unalignedInput := by
  simp [unpadData, aligned, Config.blockBytes, h]

theorem unpadData_of_aligned (p : Scheme) {y : Bytes} (h : y.length % 16 = 0) : unpadData p y = unpadAligned p y := by
  have ha : aligned y.length = true := by simp [aligned, Config.blockBytes, h]
  cases p <;> simp only [unpadData, ha, if_true, unpadAligned]

/-- Unpad removes every padding that its scheme accepts. -/
theorem unpadData_of_paddedAs {p : Scheme} {d y : Bytes} (ha : y.length % 16 = 0) (h : PaddedAs p d y) :
    unpadData p y = .ok d := by
  rw [unpadData_of_aligned p ha]
  cases p with
  | none => exact congrArg Except.ok h
  | pkcs7 =>
    obtain ⟨n, hn, hn', rfl⟩ := h
    obtain ⟨n, rfl⟩ := Nat.exists_eq_add_of_le' hn
    rw [append_replicate_count, unpadAligned, unpadPkcs7_withCount d (by simp; omega)]
    simp
  | iso7816_4 =>
    obtain ⟨z, hz, rfl⟩ := h
    exact unpadIso7816_marker d hz
  | ansi923 =>
    obtain ⟨n, hn, hn', rfl⟩ := h
    obtain ⟨n, rfl⟩ := Nat.exists_eq_add_of_le' hn
    rw [Nat.add_sub_cancel, append_zeros_count, unpadAligned, unpadAnsi923_withCount d (by simp; omega)]
    simp
  | iso10126 =>
    obtain ⟨fill, hf, rfl⟩ := h
    exact unpadIso10126_withCount d hf
  | zero =>
    obtain ⟨hd, z, rfl⟩ := h
    exact congrArg Except.ok ((unpadZero_append_zeros d z).trans ((unpadZero_eq_self_iff d).mpr hd))

/-- Unpad refuses aligned data only where no padding of the scheme ends it. -/
theorem unpadData_cases (p : Scheme) {y : Bytes} (ha : y.length % 16 = 0) :
    (∃ d, PaddedAs p d y) ∨ unpadData p y = .error .invalidPadding := by
  rw [unpadData_of_aligned p ha]
  cases p with
  | none => exact .inl ⟨y, rfl⟩
  | pkcs7 =>
    obtain ⟨d, fill, hf, rfl⟩ | he := lastCount_cases ha
    · by_cases hc : fill.all (· == countByte (fill.length + 1)) = true
      · refine .inl ⟨d, fill.length + 1, by omega, by omega, ?_⟩
        rw [append_replicate_count, ← all_eq_iff_replicate.mp hc]
      · exact .inr ((unpadPkcs7_withCount d hf).trans (if_neg hc))
    · exact .inr (by rw [unpadAligned, unpadPkcs7, he]; rfl)
  | iso7816_4 => exact unpadIso7816_cases y
  | ansi923 =>
    obtain ⟨d, fill, hf, rfl⟩ | he := lastCount_cases ha
    · by_cases hc : fill.all (· == 0x00) = true
      · refine .inl ⟨d, fill.length + 1, by omega, by omega, ?_⟩
        rw [Nat.add_sub_cancel, append_zeros_count, ← all_eq_iff_replicate.mp hc]
      · exact .inr ((unpadAnsi923_withCount d hf).trans (if_neg hc))
    · exact .inr (by rw [unpadAligned, unpadAnsi923, he]; rfl)
  | iso10126 =>
    obtain ⟨d, fill, hf, rfl⟩ | he := lastCount_cases ha
    · exact .inl ⟨d, fill, hf, rfl⟩
    · exact .inr (by rw [unpadAligned, unpadIso10126, he]; rfl)
  | zero => exact .inl ⟨unpadZero y, unpadZero_splits y⟩

/-! ## Pad, scheme by scheme -/

theorem padWithNone_of_aligned {x : Bytes} (h : x.length % 16 = 0) : padWithNone x = .ok x := by
  simp [padWithNone, aligned, Config.blockBytes, h]

theorem padWithNone_of_unaligned {x : Bytes} (h : x.length % 16 ≠ 0) : padWithNone x = .error .unalignedInput := by
  simp [padWithNone, aligned, Config.blockBytes, h]

theorem padWithZero_eq (x : Bytes) : padWithZero x = x ++ List.replicate (padCount x.length % 16) 0x00 := rfl

/-- What Pad appends (R157 (e)): a whole pad count where the scheme always appends, else nothing to aligned data. -/
theorem padData_appends {p : Scheme} {x fill y : Bytes} (hf : fill.length = padDraw p x.length)
    (h : padData p x fill = .ok y) :
    ∃ q, y = x ++ q ∧ q.length = if alwaysAppends p then padCount x.length else padCount x.length % 16 := by
  have hn := padCount_range x.length
  cases p with
  | none =>
    by_cases ha : x.length % 16 = 0
    · obtain rfl : x = y := by simpa [padData, padWithNone_of_aligned ha] using h
      exact ⟨[], by simp, by simp [alwaysAppends, padCount, Config.blockBytes, ha]⟩
    · simp [padData, padWithNone_of_unaligned ha] at h
  | pkcs7 =>
    cases h
    exact ⟨_, rfl, by simp [alwaysAppends]⟩
  | iso7816_4 =>
    cases h
    exact ⟨_, List.append_assoc .., by simp [alwaysAppends]; omega⟩
  | ansi923 =>
    cases h
    exact ⟨_, List.append_assoc .., by simp [alwaysAppends]; omega⟩
  | iso10126 =>
    cases h
    exact ⟨_, List.append_assoc .., by simp [alwaysAppends, hf, padDraw]; omega⟩
  | zero =>
    cases h
    exact ⟨_, padWithZero_eq x, by simp [alwaysAppends]⟩

/-- The padded length is aligned (R157 (d)). -/
theorem padData_aligned {p : Scheme} {x fill y : Bytes} (hf : fill.length = padDraw p x.length)
    (h : padData p x fill = .ok y) : y.length % 16 = 0 := by
  obtain ⟨q, rfl, hq⟩ := padData_appends hf h
  have ha := padCount_aligns x.length
  rw [List.length_append, hq]
  split <;> omega

/-- What the four always-appending schemes append is a padding that they accept. -/
theorem padData_paddedAs {p : Scheme} {x fill : Bytes} (hp : alwaysAppends p = true)
    (hf : fill.length = padDraw p x.length) : ∃ y, padData p x fill = .ok y ∧ PaddedAs p x y := by
  obtain ⟨h1, h16⟩ := padCount_range x.length
  cases p with
  | none | zero => simp [alwaysAppends] at hp
  | pkcs7 => exact ⟨_, rfl, _, h1, h16, rfl⟩
  | iso7816_4 => exact ⟨_, rfl, padCount x.length - 1, by omega, rfl⟩
  | ansi923 => exact ⟨_, rfl, _, h1, h16, rfl⟩
  | iso10126 =>
    have hn : fill.length + 1 = padCount x.length := by rw [hf, padDraw]; omega
    exact ⟨_, rfl, fill, by omega, by rw [withCount, hn]; rfl⟩

/-! ## The commands PAD and UNPAD -/

theorem exec_padOf_of_ok {p : Scheme} {s : State} {y : Bytes}
    (h : padData p s.inBuf (s.rand (padDraw p s.inBuf.length)) = .ok y) :
    exec (.padOf p) s = .next (resultState (s.drawn (padDraw p s.inBuf.length)) y) :=
  (exec_padOf p s).trans (runCommand_of_ok _ _ _ _ _ (congrArg (Prod.mk _) h))

theorem exec_padOf_of_error {p : Scheme} {s : State} {k : ErrorKind}
    (h : padData p s.inBuf (s.rand (padDraw p s.inBuf.length)) = .error k) :
    exec (.padOf p) s = .next (s.takeError false k (s.drawn (padDraw p s.inBuf.length))) :=
  (exec_padOf p s).trans (runCommand_of_error _ _ _ _ _ (congrArg (Prod.mk _) h))

theorem exec_unpadOf_of_paddedAs {p : Scheme} {s : State} {d : Bytes} (ha : s.inBuf.length % 16 = 0)
    (h : PaddedAs p d s.inBuf) : exec (.unpadOf p) s = .next (resultState s d) :=
  (exec_unpadOf p s).trans (runPure_of_ok _ _ _ (unpadData_of_paddedAs ha h))

theorem exec_unpadOf_of_not_paddedAs {p : Scheme} {s : State} (ha : s.inBuf.length % 16 = 0)
    (h : ¬∃ d, PaddedAs p d s.inBuf) : exec (.unpadOf p) s = .next (failedState s 4) :=
  (exec_unpadOf p s).trans (runPure_of_error _ _ .invalidPadding ((unpadData_cases p ha).resolve_left h))

theorem exec_unpadOf_of_unaligned (p : Scheme) {s : State} (h : s.inBuf.length % 16 ≠ 0) :
    exec (.unpadOf p) s = .next (failedState s 3) :=
  (exec_unpadOf p s).trans (runPure_of_error _ _ .unalignedInput (unpadData_of_unaligned p h))

end Sys2Proof.Machine

namespace Sys2Proof.Proofs

open Sys2Proof Sys2Proof.Machine

/-- Settles O18: what each scheme appends is its equation; only ISO10126 draws, and only None can fail. -/
theorem padAppendsThePadding : Obligations.PadAppendsThePadding := by
  rintro s n rfl
  exact ⟨fun h => exec_padOf_of_ok (p := .none) (padWithNone_of_aligned h),
    fun h => exec_padOf_of_error (p := .none) (padWithNone_of_unaligned h),
    exec_padOf_of_ok (p := .pkcs7) rfl, exec_padOf_of_ok (p := .iso7816_4) rfl, exec_padOf_of_ok (p := .ansi923) rfl,
    exec_padOf_of_ok (p := .iso10126) rfl, exec_padOf_of_ok (p := .zero) rfl⟩

/-- Settles O19: each form is one that its scheme accepts. -/
theorem unpadRemovesThePadding : Obligations.UnpadRemovesThePadding := fun _ _ ha =>
  ⟨fun h => exec_unpadOf_of_paddedAs (p := .none) ha h,
    fun n hn hn' h => exec_unpadOf_of_paddedAs (p := .pkcs7) ha ⟨n, hn, hn', h⟩,
    fun z hz h => exec_unpadOf_of_paddedAs (p := .iso7816_4) ha ⟨z, hz, h⟩,
    fun n hn hn' h => exec_unpadOf_of_paddedAs (p := .ansi923) ha ⟨n, hn, hn', h⟩,
    fun fill hf h => exec_unpadOf_of_paddedAs (p := .iso10126) ha ⟨fill, hf, h⟩,
    fun z hd h => exec_unpadOf_of_paddedAs (p := .zero) ha ⟨hd, z, h⟩⟩

/-- Settles O20: the alignment check comes first; then all data has a form that None and ZERO accept. -/
theorem unpadRejectsEverythingElse : Obligations.UnpadRejectsEverythingElse := fun s =>
  ⟨fun h p => exec_unpadOf_of_unaligned p h, fun ha =>
    ⟨exec_unpadOf_of_not_paddedAs (p := .pkcs7) ha, exec_unpadOf_of_not_paddedAs (p := .iso7816_4) ha,
      exec_unpadOf_of_not_paddedAs (p := .ansi923) ha, exec_unpadOf_of_not_paddedAs (p := .iso10126) ha,
      _, _, exec_unpadOf_of_paddedAs (p := .none) ha rfl, rfl,
      exec_unpadOf_of_paddedAs (p := .zero) ha (unpadZero_splits s.inBuf), rfl⟩⟩

/-- Settles O21: (a) what Pad appends is a padding that Unpad accepts; (c) Unpad drops the same zeros from padded data as
from the data itself. -/
theorem unpadInvertsPad : Obligations.UnpadInvertsPad := by
  intro x fill p hf
  refine ⟨fun hp => ?_, fun ha => ⟨padWithNone_of_aligned ha, unpadData_of_paddedAs ha rfl⟩, padWithNone_of_unaligned,
    ⟨padWithZero x, rfl, ?_⟩, fun y hy => ⟨padData_aligned hf hy, ?_⟩⟩
  · obtain ⟨y, hy, hpad⟩ := padData_paddedAs hp hf
    obtain ⟨q, rfl, hq⟩ := padData_appends hf hy
    exact ⟨_, hy, unpadData_of_paddedAs (padData_aligned hf hy) hpad, by rw [List.length_append, hq, if_pos hp]; rfl⟩
  · have ha : (padWithZero x).length % 16 = 0 := padData_aligned (p := .zero) (fill := []) rfl rfl
    refine ⟨ha, by simp [padWithZero_eq]; omega, ?_⟩
    rw [unpadData_of_aligned .zero ha, unpadAligned, Except.ok.injEq, padWithZero_eq, unpadZero_append_zeros,
      unpadZero_eq_self_iff]
  · obtain ⟨q, rfl, -⟩ := padData_appends hf hy
    exact List.take_left

end Sys2Proof.Proofs

/-! SUPPORT. The Mode Driver (R160 to R180). Every mode runs along the blocks with one value in hand, the chaining value: a
result block is made from it and the data block, and so is the next chaining value. What holds of all modes is proved once
of such a run; XTS leaves it only at a partial last block. -/

namespace Sys2Proof.Machine

/-! ## The blocks of data and of a result (R160) -/

/-- Beyond the data there are no bytes, in the blocks as in the list of them. -/
theorem blockAt_eq_getD (data : Bytes) (j : Nat) : blockAt data j = (blocks data).getD j [] := by
  by_cases hj : 16 * j < data.length
  · have hc : j < blockCount data.length := by simp only [blockCount, Config.blockBytes]; omega
    simp [blocks, hc]
  · have hc : blockCount data.length ≤ j := by simp only [blockCount, Config.blockBytes]; omega
    rw [List.getD_eq_default _ _ (by simpa [blocks] using hc), ← List.length_eq_zero_iff, blockAt_length]
    omega

theorem lt_blocks_length {data : Bytes} {j : Nat} : j < (blocks data).length ↔ 16 * j < data.length := by
  simp only [blocks, List.length_map, List.length_range, blockCount, Config.blockBytes]
  omega

/-- Induction along the split: no data, a short block alone, a full block before more data. -/
theorem blocks_induction {P : Bytes → Prop} (nil : P []) (short : ∀ x, x ≠ [] → x.length < 16 → P x)
    (full : ∀ x rest, x.length = 16 → P rest → P (x ++ rest)) (data : Bytes) : P data := by
  induction hn : data.length using Nat.strongRecOn generalizing data with
  | ind n ih =>
    by_cases h : data.length < 16
    · by_cases h0 : data = []
      · exact h0 ▸ nil
      · exact short data h0 h
    · rw [← List.take_append_drop 16 data]
      exact full _ _ (by simp; omega) (ih (data.drop 16).length (by simp; omega) _ rfl)

theorem length_of_mem_blocks {data x : Bytes} (h : x ∈ blocks data) :
    x.length ≤ 16 ∧ (data.length % 16 = 0 → x.length = 16) := by
  simp only [blocks, List.mem_map, List.mem_range, blockCount, Config.blockBytes] at h
  obtain ⟨j, hj, rfl⟩ := h
  rw [blockAt_length]
  omega

/-- Blocks as long as those of some data are the split of what they make together. -/
theorem blocks_flatten_of_lengths {data : Bytes} {l : List Bytes}
    (h : l.map List.length = (blocks data).map List.length) : blocks l.flatten = l := by
  induction data using blocks_induction generalizing l with
  | nil =>
    obtain rfl : l = [] := by simpa using h
    rfl
  | short x h0 hx =>
    rw [blocks_single x h0 (by omega)] at h
    obtain ⟨y, rfl, hy⟩ : ∃ y, l = [y] ∧ y.length = x.length := by simpa [List.map_eq_cons_iff] using h
    have hy0 : y ≠ [] := fun hy0 => h0 (List.length_eq_zero_iff.mp (by rw [← hy, hy0, List.length_nil]))
    rw [List.flatten_singleton, blocks_single y hy0 (by omega)]
  | full x rest hx ih =>
    rw [blocks_cons x rest hx] at h
    obtain ⟨y, ys, rfl, hy, hys⟩ := List.map_eq_cons_iff.mp h
    rw [List.flatten_cons, blocks_cons y _ (hy.trans hx), ih hys]

theorem flatten_length_of_lengths {data : Bytes} {l : List Bytes}
    (h : l.map List.length = (blocks data).map List.length) : l.flatten.length = data.length := by
  rw [List.length_flatten, h, ← List.length_flatten, blocks_flatten]

/-- A block of a result is the one the mode made. -/
theorem blockAt_flatten {data : Bytes} {l : List Bytes} (h : l.map List.length = (blocks data).map List.length) (j : Nat) :
    blockAt l.flatten j = l.getD j [] := by
  rw [blockAt_eq_getD, blocks_flatten_of_lengths h]

theorem applyKeystream_eq_xorBytes (x k : Bytes) : applyKeystream x k = xorBytes x k := by
  refine List.ext_getElem (by simp [applyKeystream, trunc]) fun i _ _ => ?_
  simp [applyKeystream, xorBytes, trunc]

/-! ## A run along the blocks -/

/-- How a mode makes a block of the result, and the next chaining value (R179), from the chaining value and a block. -/
structure Chaining where
  out : Bytes → Bytes → Bytes
  next : Bytes → Bytes → Bytes

namespace Chaining

/-- The result blocks, from a chaining value on. -/
def run (k : Chaining) : Bytes → List Bytes → List Bytes
  | _, [] => []
  | c, x :: xs => k.out c x :: k.run (k.next c x) xs

/-- The chaining value after some blocks. -/
def after (k : Chaining) (c : Bytes) (xs : List Bytes) : Bytes := xs.foldl k.next c

/-- A recursion of the model that makes blocks and chaining values as `k` does is the run of `k`. -/
theorem eq_run {k : Chaining} {f : Bytes → List Bytes → List Bytes} (nil : ∀ c, f c [] = [])
    (cons : ∀ c x xs, f c (x :: xs) = k.out c x :: f (k.next c x) xs) (c : Bytes) (xs : List Bytes) :
    f c xs = k.run c xs := by
  induction xs generalizing c with
  | nil => exact nil c
  | cons x xs ih => rw [cons, run, ih]

@[simp] theorem run_length (k : Chaining) (c : Bytes) (xs : List Bytes) : (k.run c xs).length = xs.length := by
  induction xs generalizing c with
  | nil => rfl
  | cons x xs ih => rw [run, List.length_cons, ih, List.length_cons]

theorem run_getD (k : Chaining) (c : Bytes) {xs : List Bytes} {j : Nat} (h : j < xs.length) :
    (k.run c xs).getD j [] = k.out (k.after c (xs.take j)) (xs.getD j []) := by
  induction xs generalizing c j with
  | nil => simp at h
  | cons x xs ih =>
    cases j with
    | zero => rfl
    | succ j => simpa [run, after] using ih (k.next c x) (by simpa using h)

theorem after_take_succ (k : Chaining) (c : Bytes) {xs : List Bytes} {j : Nat} (h : j < xs.length) :
    k.after c (xs.take (j + 1)) = k.next (k.after c (xs.take j)) (xs.getD j []) := by
  rw [after, List.take_succ_eq_append_getElem h, List.foldl_append, List.getD_eq_getElem _ _ h]
  rfl

/-- Where the next chaining value is the result block, it is the block before, the first one being given. -/
theorem after_take_of_next_out {k : Chaining} (hk : k.next = k.out) (c : Bytes) {xs : List Bytes} {j : Nat}
    (h : j < xs.length) : k.after c (xs.take j) = if j = 0 then c else (k.run c xs).getD (j - 1) [] := by
  cases j with
  | zero => rfl
  | succ j =>
    have hj : j < xs.length := by omega
    rw [if_neg (by omega), Nat.add_sub_cancel, run_getD k c hj, after_take_succ k c hj, hk]

/-- Where the next chaining value is the data block, it is the block before, the first one being given. -/
theorem after_take_of_next_data {k : Chaining} (hk : ∀ c x, k.next c x = x) (c : Bytes) {xs : List Bytes} {j : Nat}
    (h : j < xs.length) : k.after c (xs.take j) = if j = 0 then c else xs.getD (j - 1) [] := by
  cases j with
  | zero => rfl
  | succ j =>
    have hj : j < xs.length := by omega
    rw [if_neg (by omega), Nat.add_sub_cancel, after_take_succ k c hj, hk]

/-- Where the next chaining value does not look at the data, only the number of blocks counts. -/
theorem after_of_next_const {k : Chaining} {g : Bytes → Bytes} (hk : ∀ c x, k.next c x = g c) (c : Bytes)
    (xs : List Bytes) : k.after c xs = g^[xs.length] c := by
  rw [after, ← List.foldl_const]
  exact congrFun (congrFun (congrArg _ (funext fun c => funext (hk c))) c) xs

end Chaining

/-! ## The modes as runs -/

/-- XTS where no partial block follows: the tweak is the chaining value (R175, R176). -/
def xtsChaining (f : Bytes → Bytes → Bytes) : Chaining := ⟨fun t x => f x t, fun t _ => mulAlpha t⟩

/-- Encryption in a mode, block by block (R164, R166, R168, R169, R172, R175 without a partial block). -/
def encryptChaining (ks : Bytes) : Mode → Chaining
  | .ecb => ⟨fun _ x => encryptBlock ks x, fun c _ => c⟩
  | .cbc => ⟨fun c x => encryptBlock ks (xorBytes x c), fun c x => encryptBlock ks (xorBytes x c)⟩
  | .ofb => ⟨fun c x => applyKeystream x (encryptBlock ks c), fun c _ => encryptBlock ks c⟩
  | .cfb => ⟨fun c x => applyKeystream x (encryptBlock ks c), fun c x => applyKeystream x (encryptBlock ks c)⟩
  | .ctr => ⟨fun c x => applyKeystream x (encryptBlock ks c), fun c _ => inc128 c⟩
  | .xts => xtsChaining (xtsE ks)

/-- Decryption in a mode, block by block (R165, R167, R168, R170, R172, R176 without a partial block). -/
def decryptChaining (ks : Bytes) : Mode → Chaining
  | .ecb => ⟨fun _ x => decryptBlock ks x, fun c _ => c⟩
  | .cbc => ⟨fun c x => xorBytes (decryptBlock ks x) c, fun _ x => x⟩
  | .ofb => ⟨fun c x => applyKeystream x (encryptBlock ks c), fun c _ => encryptBlock ks c⟩
  | .cfb => ⟨fun c x => applyKeystream x (encryptBlock ks c), fun _ x => x⟩
  | .ctr => ⟨fun c x => applyKeystream x (encryptBlock ks c), fun c _ => inc128 c⟩
  | .xts => xtsChaining (xtsD ks)

theorem driveEncrypt_eq_run {m : Mode} (hm : m ≠ .xts) (data ks ks2 iv : Bytes) :
    driveEncrypt m data ks ks2 iv = ((encryptChaining ks m).run iv (blocks data)).flatten := by
  cases m with
  | ecb =>
    exact congrArg List.flatten (Chaining.eq_run (k := encryptChaining ks .ecb) (f := fun _ => List.map (encryptBlock ks))
      (fun _ => rfl) (fun _ _ _ => rfl) iv _)
  | cbc | ofb | cfb | ctr =>
    exact congrArg List.flatten (Chaining.eq_run (fun _ => rfl) (fun _ _ _ => rfl) iv _)
  | xts => exact absurd rfl hm

theorem driveDecrypt_eq_run {m : Mode} (hm : m ≠ .xts) (data ks ks2 iv : Bytes) :
    driveDecrypt m data ks ks2 iv = ((decryptChaining ks m).run iv (blocks data)).flatten := by
  cases m with
  | ecb =>
    exact congrArg List.flatten (Chaining.eq_run (k := decryptChaining ks .ecb) (f := fun _ => List.map (decryptBlock ks))
      (fun _ => rfl) (fun _ _ _ => rfl) iv _)
  | cbc | ofb | cfb | ctr =>
    exact congrArg List.flatten (Chaining.eq_run (fun _ => rfl) (fun _ _ _ => rfl) iv _)
  | xts => exact absurd rfl hm

end Sys2Proof.Machine

namespace Sys2Proof.Machine

/-! ## What a run keeps, and how it is undone -/

@[simp] theorem mulAlpha_length {t : Bytes} (h : t.length = 16) : (mulAlpha t).length = 16 := by simp [mulAlpha, h]

/-- The chaining value is a block where the length of a result depends on it. -/
def ChainOk (m : Mode) (c : Bytes) : Prop := m = .cbc ∨ m = .xts → c.length = 16

/-- A block that a mode's rule meets: only a stream mode meets a short one (R162). -/
def BlockOk (m : Mode) (x : Bytes) : Prop := x.length ≤ 16 ∧ (streamMode m = false → x.length = 16)

theorem blockOk_of_full (m : Mode) {x : Bytes} (h : x.length = 16) : BlockOk m x := ⟨by omega, fun _ => h⟩

theorem blockOk_of_legalLength {m : Mode} (hm : m ≠ .xts) {data : Bytes} (hl : legalLength m data.length) :
    ∀ x ∈ blocks data, BlockOk m x := by
  intro x hx
  obtain ⟨hle, heq⟩ := length_of_mem_blocks hx
  refine ⟨hle, fun hs => ?_⟩
  cases m with
  | ecb | cbc => exact heq hl
  | ofb | cfb | ctr => cases hs
  | xts => exact absurd rfl hm

theorem ne_xts_of_stream {m : Mode} (h : streamMode m = true) : m ≠ .xts := by
  rintro rfl
  cases h

theorem legalLength_of_stream {m : Mode} (h : streamMode m = true) (n : Nat) : legalLength m n := by
  cases m with
  | ofb | cfb | ctr => trivial
  | ecb | cbc | xts => cases h

theorem chainOk_of_legalIv {m : Mode} {iv : Bytes} (h : legalIv m iv) : ChainOk m iv := by
  rintro (rfl | rfl) <;> exact h (by decide)

/-- A result block is as long as the data block, and the chaining value stays one. -/
structure Chaining.Keeps (k : Chaining) (m : Mode) : Prop where
  out_length : ∀ c x, ChainOk m c → BlockOk m x → (k.out c x).length = x.length
  next_ok : ∀ c x, ChainOk m c → BlockOk m x → ChainOk m (k.next c x)

/-- `d` makes the data block from the result block of `e`, and the same chaining value after it. -/
structure Chaining.Undoes (d e : Chaining) (m : Mode) : Prop where
  out_out : ∀ c x, ChainOk m c → BlockOk m x → d.out c (e.out c x) = x
  next_out : ∀ c x, ChainOk m c → BlockOk m x → d.next c (e.out c x) = e.next c x

theorem Chaining.Keeps.run_lengths {k : Chaining} {m : Mode} (hk : k.Keeps m) {c : Bytes} {xs : List Bytes}
    (hc : ChainOk m c) (hxs : ∀ x ∈ xs, BlockOk m x) : (k.run c xs).map List.length = xs.map List.length := by
  induction xs generalizing c with
  | nil => rfl
  | cons x xs ih =>
    obtain ⟨hx, hxs⟩ := List.forall_mem_cons.mp hxs
    rw [run, List.map_cons, List.map_cons, hk.out_length c x hc hx, ih (hk.next_ok c x hc hx) hxs]

section
variable {k : Chaining} {m : Mode} (hk : k.Keeps m) {data iv : Bytes} (hc : ChainOk m iv)
  (hxs : ∀ x ∈ blocks data, BlockOk m x)
include hk hc hxs

theorem Chaining.Keeps.blocks_result : blocks (k.run iv (blocks data)).flatten = k.run iv (blocks data) :=
  blocks_flatten_of_lengths (hk.run_lengths hc hxs)

theorem Chaining.Keeps.result_length : (k.run iv (blocks data)).flatten.length = data.length :=
  flatten_length_of_lengths (hk.run_lengths hc hxs)

theorem Chaining.Keeps.blockAt_result {j : Nat} (hj : 16 * j < data.length) :
    blockAt (k.run iv (blocks data)).flatten j = k.out (k.after iv ((blocks data).take j)) (blockAt data j) := by
  rw [blockAt_eq_getD, hk.blocks_result hc hxs, run_getD k iv (lt_blocks_length.mpr hj), blockAt_eq_getD]

end

theorem Chaining.Undoes.run_run {d e : Chaining} {m : Mode} (hd : d.Undoes e m) (he : e.Keeps m) {c : Bytes}
    {xs : List Bytes} (hc : ChainOk m c) (hxs : ∀ x ∈ xs, BlockOk m x) : d.run c (e.run c xs) = xs := by
  induction xs generalizing c with
  | nil => rfl
  | cons x xs ih =>
    obtain ⟨hx, hxs⟩ := List.forall_mem_cons.mp hxs
    rw [run, run, hd.out_out c x hc hx, hd.next_out c x hc hx, ih (he.next_ok c x hc hx) hxs]

theorem applyKeystream_length {x k : Bytes} (hk : k.length = 16) (hx : x.length ≤ 16) :
    (applyKeystream x k).length = x.length := by
  rw [applyKeystream_eq_xorBytes, xorBytes_length, hk]
  omega

theorem applyKeystream_cancel {x k : Bytes} (hk : k.length = 16) (hx : x.length ≤ 16) :
    applyKeystream (applyKeystream x k) k = x := by
  rw [applyKeystream_eq_xorBytes, applyKeystream_eq_xorBytes, xorBytes_cancel x k (by omega)]

section
variable {ks : Bytes} (hk : ks.length = 240)
include hk

theorem xtsE_length (x : Bytes) {t : Bytes} (ht : t.length = 16) : (xtsE ks x t).length = 16 := by
  rw [xtsE, xorBytes_length, encryptBlock_length _ _ hk, ht, Nat.min_self]

theorem xtsD_length (x : Bytes) {t : Bytes} (ht : t.length = 16) : (xtsD ks x t).length = 16 := by
  rw [xtsD, xorBytes_length, decryptBlock_length _ _ hk, ht, Nat.min_self]

theorem xtsD_xtsE {x t : Bytes} (hx : x.length = 16) (ht : t.length = 16) : xtsD ks (xtsE ks x t) t = x := by
  have he := encryptBlock_length ks (xorBytes x t) hk
  rw [xtsD, xtsE, xorBytes_cancel _ t (by omega), decryptBlock_encryptBlock hk (by simp [hx, ht]),
    xorBytes_cancel x t (by omega)]

theorem decryptBlock_encryptBlock_xorBytes {x c : Bytes} (hx : x.length = 16) (hc : c.length = 16) :
    xorBytes (decryptBlock ks (encryptBlock ks (xorBytes x c))) c = x := by
  rw [decryptBlock_encryptBlock hk (by simp [hx, hc]), xorBytes_cancel x c (by omega)]

theorem encryptChaining_keeps (m : Mode) : (encryptChaining ks m).Keeps m := by
  have hE := fun b => encryptBlock_length ks b hk
  refine ⟨fun c x hc hx => ?_, fun c x hc hx => ?_⟩
  · cases m with
    | ecb | cbc => exact (hE _).trans (hx.2 rfl).symm
    | ofb | cfb | ctr => exact applyKeystream_length (hE c) hx.1
    | xts => exact (xtsE_length hk x (hc (.inr rfl))).trans (hx.2 rfl).symm
  · cases m with
    | ecb => exact hc
    | cbc => exact fun _ => hE _
    | ofb | cfb | ctr => rintro (h | h) <;> cases h
    | xts => exact fun _ => mulAlpha_length (hc (.inr rfl))

theorem decryptChaining_keeps (m : Mode) : (decryptChaining ks m).Keeps m := by
  have hE := fun b => encryptBlock_length ks b hk
  have hD := fun b => decryptBlock_length ks b hk
  refine ⟨fun c x hc hx => ?_, fun c x hc hx => ?_⟩
  · cases m with
    | ecb => exact (hD _).trans (hx.2 rfl).symm
    | cbc => simp [decryptChaining, hD, hc (.inl rfl), hx.2 rfl]
    | ofb | cfb | ctr => exact applyKeystream_length (hE c) hx.1
    | xts => exact (xtsD_length hk x (hc (.inr rfl))).trans (hx.2 rfl).symm
  · cases m with
    | ecb => exact hc
    | cbc => exact fun _ => hx.2 rfl
    | ofb | cfb | ctr => rintro (h | h) <;> cases h
    | xts => exact fun _ => mulAlpha_length (hc (.inr rfl))

theorem decryptChaining_undoes (m : Mode) : (decryptChaining ks m).Undoes (encryptChaining ks m) m := by
  refine ⟨fun c x hc hx => ?_, fun c x hc hx => by cases m <;> rfl⟩
  cases m with
  | ecb => exact decryptBlock_encryptBlock hk (hx.2 rfl)
  | cbc => exact decryptBlock_encryptBlock_xorBytes hk (hx.2 rfl) (hc (.inl rfl))
  | ofb | cfb | ctr => exact applyKeystream_cancel (encryptBlock_length ks c hk) hx.1
  | xts => exact xtsD_xtsE hk (hx.2 rfl) (hc (.inr rfl))

/-! ## Every mode but XTS is a run along all its blocks -/

section
variable {m : Mode} {data iv : Bytes} (hm : m ≠ .xts) (hc : ChainOk m iv) (hl : legalLength m data.length)
include hm hc hl

theorem driveEncrypt_length (ks2 : Bytes) : (driveEncrypt m data ks ks2 iv).length = data.length := by
  rw [driveEncrypt_eq_run hm]
  exact (encryptChaining_keeps hk m).result_length hc (blockOk_of_legalLength hm hl)

theorem driveDecrypt_length (ks2 : Bytes) : (driveDecrypt m data ks ks2 iv).length = data.length := by
  rw [driveDecrypt_eq_run hm]
  exact (decryptChaining_keeps hk m).result_length hc (blockOk_of_legalLength hm hl)

theorem blocks_driveEncrypt (ks2 : Bytes) :
    blocks (driveEncrypt m data ks ks2 iv) = (encryptChaining ks m).run iv (blocks data) := by
  rw [driveEncrypt_eq_run hm]
  exact (encryptChaining_keeps hk m).blocks_result hc (blockOk_of_legalLength hm hl)

theorem driveDecrypt_driveEncrypt (ks2 : Bytes) :
    driveDecrypt m (driveEncrypt m data ks ks2 iv) ks ks2 iv = data := by
  rw [driveDecrypt_eq_run hm, blocks_driveEncrypt hk hm hc hl,
    (decryptChaining_undoes hk m).run_run (encryptChaining_keeps hk m) hc (blockOk_of_legalLength hm hl), blocks_flatten]

section
variable {j : Nat} (hj : 16 * j < data.length)
include hj

theorem blockAt_driveEncrypt (ks2 : Bytes) :
    blockAt (driveEncrypt m data ks ks2 iv) j =
      (encryptChaining ks m).out ((encryptChaining ks m).after iv ((blocks data).take j)) (blockAt data j) := by
  rw [driveEncrypt_eq_run hm]
  exact (encryptChaining_keeps hk m).blockAt_result hc (blockOk_of_legalLength hm hl) hj

theorem blockAt_driveDecrypt (ks2 : Bytes) :
    blockAt (driveDecrypt m data ks ks2 iv) j =
      (decryptChaining ks m).out ((decryptChaining ks m).after iv ((blocks data).take j)) (blockAt data j) := by
  rw [driveDecrypt_eq_run hm]
  exact (decryptChaining_keeps hk m).blockAt_result hc (blockOk_of_legalLength hm hl) hj

/-- The chaining value of a mode that feeds the result block back (CBC and CFB encryption). -/
theorem after_of_result_feedback (ks2 : Bytes) (hn : (encryptChaining ks m).next = (encryptChaining ks m).out) :
    (encryptChaining ks m).after iv ((blocks data).take j) =
      if j = 0 then iv else blockAt (driveEncrypt m data ks ks2 iv) (j - 1) := by
  rw [Chaining.after_take_of_next_out hn iv (lt_blocks_length.mpr hj), blockAt_eq_getD, blocks_driveEncrypt hk hm hc hl]

end

end

end

/-- The chaining value of a mode that feeds the data block forward (CBC and CFB decryption). -/
theorem after_of_data_feedback {k : Chaining} (hn : ∀ c x, k.next c x = x) (iv : Bytes) {data : Bytes} {j : Nat}
    (hj : 16 * j < data.length) :
    k.after iv ((blocks data).take j) = if j = 0 then iv else blockAt data (j - 1) := by
  rw [Chaining.after_take_of_next_data hn iv (lt_blocks_length.mpr hj), blockAt_eq_getD]

/-- The chaining value of a mode that counts blocks (OFB, CTR, XTS). -/
theorem after_of_counting {k : Chaining} {g : Bytes → Bytes} (hn : ∀ c x, k.next c x = g c) (iv : Bytes) {data : Bytes}
    {j : Nat} (hj : 16 * j < data.length) : k.after iv ((blocks data).take j) = g^[j] iv := by
  rw [Chaining.after_of_next_const hn, List.length_take, Nat.min_eq_left (lt_blocks_length.mpr hj).le]

end Sys2Proof.Machine

namespace Sys2Proof.Proofs

open Sys2Proof Sys2Proof.Machine

/-- Settles O24: the chaining value of CBC is the ciphertext block before. -/
theorem blockModesBlockByBlock : Obligations.BlockModesBlockByBlock := by
  intro ks ks2 iv data hk hl
  have hecb : ChainOk .ecb iv := chainOk_of_legalIv fun h => absurd rfl h
  refine ⟨driveEncrypt_length hk (by decide) hecb hl ks2, driveDecrypt_length hk (by decide) hecb hl ks2,
    fun j hj => ⟨blockAt_driveEncrypt hk (by decide) hecb hl hj ks2, blockAt_driveDecrypt hk (by decide) hecb hl hj ks2⟩,
    fun hi => ?_⟩
  have hcbc : ChainOk .cbc iv := fun _ => hi
  refine ⟨driveEncrypt_length hk (by decide) hcbc hl ks2, driveDecrypt_length hk (by decide) hcbc hl ks2,
    fun j hj => ⟨?_, ?_⟩⟩
  · rw [← after_of_result_feedback hk (by decide) hcbc hl hj ks2 rfl]
    exact blockAt_driveEncrypt hk (by decide) hcbc hl hj ks2
  · rw [← after_of_data_feedback (k := decryptChaining ks .cbc) (fun _ _ => rfl) iv hj]
    exact blockAt_driveDecrypt hk (by decide) hcbc hl hj ks2

end Sys2Proof.Proofs

namespace Sys2Proof.Machine

/-! ## The results of MENC and MDEC (R161 to R163, R177, R178) -/

theorem modeResults_of_no_schedule {s : State} (m : Mode) (hv : s.ksValid = false) :
    mencResult m s = .error .noSchedule ∧ mdecResult m s = .error .noSchedule := by
  simp [mencResult, mdecResult, hv]

section
variable {s : State} {m : Mode} (hv : s.ksValid = true)
include hv

theorem modeResults_of_illegal_iv (hi : ¬legalIv m s.ivBuf) :
    mencResult m s = .error .invalidIvLength ∧ mdecResult m s = .error .invalidIvLength := by
  simp [mencResult, mdecResult, hv, modeEncrypt, modeDecrypt, checkIv_of_illegal m _ hi, bind, Except.bind]

theorem modeResults_of_illegal_length (hi : legalIv m s.ivBuf) (hl : ¬legalLength m s.inBuf.length) :
    mencResult m s = .error (if m = .xts then .invalidInputLength else .unalignedInput) ∧
    mdecResult m s = .error (if m = .xts then .invalidInputLength else .unalignedInput) := by
  simp [mencResult, mdecResult, hv, modeEncrypt, modeDecrypt, checkIv_of_legal m _ hi, checkLength_of_illegal m _ hl, bind,
    Except.bind]

end

theorem modeEncrypt_of_legal {m : Mode} {data iv : Bytes} (hi : legalIv m iv) (hl : legalLength m data.length)
    (ks ks2 : Bytes) : modeEncrypt m data ks ks2 iv = .ok (driveEncrypt m data ks ks2 iv) := by
  simp [modeEncrypt, checkIv_of_legal m iv hi, checkLength_of_legal m _ hl, bind, Except.bind]

theorem modeDecrypt_of_legal {m : Mode} {data iv : Bytes} (hi : legalIv m iv) (hl : legalLength m data.length)
    (ks ks2 : Bytes) : modeDecrypt m data ks ks2 iv = .ok (driveDecrypt m data ks ks2 iv) := by
  simp [modeDecrypt, checkIv_of_legal m iv hi, checkLength_of_legal m _ hl, bind, Except.bind]

theorem modeResults_of_legal {s : State} {m : Mode} (hv : s.ksValid = true) (hi : legalIv m s.ivBuf)
    (hl : legalLength m s.inBuf.length) :
    mencResult m s = .ok (driveEncrypt m s.inBuf s.ks s.ks2 s.ivBuf) ∧
    mdecResult m s = .ok (driveDecrypt m s.inBuf s.ks s.ks2 s.ivBuf) := by
  simp [mencResult, mdecResult, hv, modeEncrypt_of_legal hi hl, modeDecrypt_of_legal hi hl]

theorem exec_mode_of_error {s : State} {m : Mode} {i : Instr} {k : ErrorKind} (hi : i = .mencOf m ∨ i = .mdecOf m)
    (h : mencResult m s = .error k ∧ mdecResult m s = .error k) : exec i s = .next (failedState s (errorCode k)) := by
  obtain rfl | rfl := hi
  · exact (exec_mencOf m s).trans (runPure_of_error _ _ _ h.1)
  · exact (exec_mdecOf m s).trans (runPure_of_error _ _ _ h.2)

end Sys2Proof.Machine

namespace Sys2Proof.Proofs

open Sys2Proof Sys2Proof.Machine

/-- Settles O22: all checks pass. -/
theorem mencAndMdecRunTheMode : Obligations.MencAndMdecRunTheMode := by
  intro s m hv hi hl
  obtain ⟨he, hd⟩ := modeResults_of_legal hv hi hl
  exact ⟨(exec_mencOf m s).trans (runPure_of_ok _ _ _ he), (exec_mdecOf m s).trans (runPure_of_ok _ _ _ hd)⟩

/-- Settles O23: the first check that does not pass gives the error, the same one in both directions. -/
theorem modeCommandsFailInOrder : Obligations.ModeCommandsFailInOrder := by
  intro s m i hmi
  refine ⟨fun hv => exec_mode_of_error hmi (modeResults_of_no_schedule m hv),
    fun hv hi => exec_mode_of_error hmi (modeResults_of_illegal_iv hv hi), fun hv hi hl => ?_⟩
  rw [exec_mode_of_error hmi (modeResults_of_illegal_length hv hi hl), apply_ite errorCode]
  rfl

end Sys2Proof.Proofs

/-! SUPPORT. XTS (R173 to R176): a run along the blocks up to a partial last one, which with the full block before it goes
through ciphertext stealing. -/

namespace Sys2Proof.Machine

/-- The two result blocks of ciphertext stealing on encryption (R175). -/
def stolenEncrypt (ks t x p : Bytes) : List Bytes :=
  [xtsE ks (p ++ (xtsE ks x t).drop p.length) (mulAlpha t), (xtsE ks x t).take p.length]

/-- The two result blocks of ciphertext stealing on decryption (R176). -/
def stolenDecrypt (ks t x p : Bytes) : List Bytes :=
  [xtsD ks (p ++ (xtsD ks x (mulAlpha t)).drop p.length) t, (xtsD ks x (mulAlpha t)).take p.length]

/-- What both directions of XTS have in common: a block gives a block, and stealing gives a block and as many bytes as the
partial block has. -/
structure XtsDirection (f : Bytes → Bytes → Bytes) (steal : Bytes → Bytes → Bytes → Bytes)
    (stolen : Bytes → Bytes → Bytes → List Bytes) : Prop where
  block_length : ∀ x t, t.length = 16 → (f x t).length = 16
  steal_eq : ∀ t x p, steal t x p = (stolen t x p).flatten
  stolen_lengths : ∀ t x p, t.length = 16 → p.length ≤ 16 → (stolen t x p).map List.length = [16, p.length]

theorem xtsEncryptDirection {ks : Bytes} (hk : ks.length = 240) :
    XtsDirection (xtsE ks) (xtsStealEncrypt ks) (stolenEncrypt ks) where
  block_length x _ ht := xtsE_length hk x ht
  steal_eq t x p := by simp [xtsStealEncrypt, stolenEncrypt, trunc]
  stolen_lengths t x p ht hp := by simp [stolenEncrypt, xtsE_length hk, ht, hp]

theorem xtsDecryptDirection {ks : Bytes} (hk : ks.length = 240) :
    XtsDirection (xtsD ks) (xtsStealDecrypt ks) (stolenDecrypt ks) where
  block_length x _ ht := xtsD_length hk x ht
  steal_eq t x p := by simp [xtsStealDecrypt, stolenDecrypt, trunc]
  stolen_lengths t x p ht hp := by simp [stolenDecrypt, xtsD_length hk, ht, hp]

theorem xtsChaining_keeps {f : Bytes → Bytes → Bytes} {steal : Bytes → Bytes → Bytes → Bytes}
    {stolen : Bytes → Bytes → Bytes → List Bytes} (hd : XtsDirection f steal stolen) : (xtsChaining f).Keeps .xts where
  out_length c x hc hx := (hd.block_length x c (hc (.inr rfl))).trans (hx.2 rfl).symm
  next_ok _ _ hc _ _ := mulAlpha_length (hc (.inr rfl))

/-! ## The model's recursion -/

section
variable (f : Bytes → Bytes → Bytes) (steal : Bytes → Bytes → Bytes → Bytes)

theorem xtsBlocks_cons (t x : Bytes) {xs : List Bytes} (h : 2 ≤ xs.length ∨ ∀ p ∈ xs, p.length = 16) :
    xtsBlocks f steal t (x :: xs) = f x t ++ xtsBlocks f steal (mulAlpha t) xs := by
  match xs with
  | [] => simp [xtsBlocks]
  | [p] =>
    have hp : p.length = 16 := by simpa using h
    simp [xtsBlocks, hp]
  | p :: q :: rest => simp [xtsBlocks]

theorem xtsBlocks_of_full (t : Bytes) {xs : List Bytes} (h : ∀ x ∈ xs, x.length = 16) :
    xtsBlocks f steal t xs = ((xtsChaining f).run t xs).flatten := by
  induction xs generalizing t with
  | nil => rfl
  | cons x xs ih =>
    obtain ⟨-, hxs⟩ := List.forall_mem_cons.mp h
    rw [xtsBlocks_cons f steal t x (.inr hxs), ih _ hxs]
    rfl

theorem xtsBlocks_of_partial (t x : Bytes) {p : Bytes} (hp : p.length < 16) (xs : List Bytes) :
    xtsBlocks f steal t (xs ++ [x, p]) =
      ((xtsChaining f).run t xs).flatten ++ steal (mulAlpha^[xs.length] t) x p := by
  induction xs generalizing t with
  | nil => simp [xtsBlocks, hp, Chaining.run]
  | cons a xs ih =>
    rw [List.cons_append, xtsBlocks_cons f steal t a (.inl (by simp)), ih, List.length_cons, Function.iterate_succ_apply,
      Chaining.run, List.flatten_cons, List.append_assoc]
    rfl

end

/-! ## Data with a partial block -/

/-- The data is `k` blocks, one more full block, and a partial one (R175, R176). -/
def EndsPartial (data : Bytes) (k : Nat) : Prop := 16 * (k + 1) < data.length ∧ data.length < 16 * (k + 2)

/-- The first `k` blocks of the data. -/
def firstBlocks (data : Bytes) (k : Nat) : List Bytes := (List.range k).map (blockAt data)

theorem length_of_mem_blocks_of_aligned {data : Bytes} (h : data.length % 16 = 0) : ∀ x ∈ blocks data, x.length = 16 :=
  fun _ hx => (length_of_mem_blocks hx).2 h

theorem blockOk_of_aligned (m : Mode) {data : Bytes} (h : data.length % 16 = 0) : ∀ x ∈ blocks data, BlockOk m x :=
  fun x hx => blockOk_of_full m (length_of_mem_blocks_of_aligned h x hx)

/-- A legal length of XTS has a partial block after at least one full block, or none (R162). -/
theorem aligned_or_endsPartial {data : Bytes} (hl : data.length = 0 ∨ 16 ≤ data.length) :
    data.length % 16 = 0 ∨ ∃ k, EndsPartial data k := by
  by_cases hb : data.length % 16 = 0
  · exact .inl hb
  · exact .inr ⟨data.length / 16 - 1, by omega, by omega⟩

@[simp] theorem firstBlocks_length (data : Bytes) (k : Nat) : (firstBlocks data k).length = k := by simp [firstBlocks]

theorem iterate_mulAlpha_length {t : Bytes} (ht : t.length = 16) (n : Nat) : (mulAlpha^[n] t).length = 16 := by
  induction n with
  | zero => exact ht
  | succ n ih => rw [Function.iterate_succ_apply', mulAlpha_length ih]

section
variable {data : Bytes} {k : Nat} (h : EndsPartial data k)
include h

theorem blocks_of_endsPartial : blocks data = firstBlocks data k ++ [blockAt data k, blockAt data (k + 1)] := by
  have hc : blockCount data.length = k + 1 + 1 := by
    obtain ⟨h1, h2⟩ := h
    simp only [blockCount, Config.blockBytes]
    omega
  simp [blocks, hc, List.range_succ, firstBlocks]

theorem length_of_mem_firstBlocks : ∀ x ∈ firstBlocks data k, x.length = 16 := by
  simp only [firstBlocks, List.mem_map, List.mem_range]
  rintro x ⟨j, hj, rfl⟩
  obtain ⟨h1, -⟩ := h
  rw [blockAt_length]
  omega

theorem last_blocks_length : (blockAt data k).length = 16 ∧ (blockAt data (k + 1)).length < 16 := by
  obtain ⟨h1, h2⟩ := h
  rw [blockAt_length, blockAt_length]
  omega

variable {f : Bytes → Bytes → Bytes} {steal : Bytes → Bytes → Bytes → Bytes}
  {stolen : Bytes → Bytes → Bytes → List Bytes} (hd : XtsDirection f steal stolen) {t : Bytes}
include hd

theorem xts_of_endsPartial :
    xtsBlocks f steal t (blocks data) =
      ((xtsChaining f).run t (firstBlocks data k) ++
        stolen (mulAlpha^[k] t) (blockAt data k) (blockAt data (k + 1))).flatten := by
  rw [blocks_of_endsPartial h, xtsBlocks_of_partial f steal t _ (last_blocks_length h).2, hd.steal_eq,
    firstBlocks_length, List.flatten_append]

end

/-! ## Both directions, block by block -/

theorem iterate_mulAlpha_of_tweaks {tweak : Nat → Bytes} {t : Bytes} (h0 : tweak 0 = t)
    (hs : ∀ j, tweak (j + 1) = mulAlpha (tweak j)) (j : Nat) : mulAlpha^[j] t = tweak j := by
  induction j with
  | zero => exact h0.symm
  | succ j ih => rw [Function.iterate_succ_apply', ih, hs]

section
variable {f : Bytes → Bytes → Bytes} {steal : Bytes → Bytes → Bytes → Bytes}
  {stolen : Bytes → Bytes → Bytes → List Bytes} (hd : XtsDirection f steal stolen) {t : Bytes} (ht : t.length = 16)
include hd ht

theorem stolenRun_lengths {data : Bytes} {k : Nat} (h : EndsPartial data k) :
    ((xtsChaining f).run t (firstBlocks data k) ++
        stolen (mulAlpha^[k] t) (blockAt data k) (blockAt data (k + 1))).map List.length =
      (blocks data).map List.length := by
  obtain ⟨hx, hp⟩ := last_blocks_length h
  have hrun := (xtsChaining_keeps hd).run_lengths (fun _ => ht) fun x hx =>
    blockOk_of_full .xts (length_of_mem_firstBlocks h x hx)
  rw [blocks_of_endsPartial h, List.map_append, List.map_append, hrun,
    hd.stolen_lengths _ _ _ (iterate_mulAlpha_length ht k) hp.le, List.map_cons, hx]
  rfl

theorem xts_length {data : Bytes} (hl : data.length = 0 ∨ 16 ≤ data.length) :
    (xtsBlocks f steal t (blocks data)).length = data.length := by
  obtain hb | ⟨k, h⟩ := aligned_or_endsPartial hl
  · rw [xtsBlocks_of_full f steal t (length_of_mem_blocks_of_aligned hb)]
    exact (xtsChaining_keeps hd).result_length (fun _ => ht) (blockOk_of_aligned .xts hb)
  · rw [xts_of_endsPartial h hd, flatten_length_of_lengths (stolenRun_lengths hd ht h)]

theorem blockAt_xts_of_aligned {data : Bytes} (hb : data.length % 16 = 0) {j : Nat} (hj : 16 * j < data.length) :
    blockAt (xtsBlocks f steal t (blocks data)) j = f (blockAt data j) (mulAlpha^[j] t) := by
  rw [xtsBlocks_of_full f steal t (length_of_mem_blocks_of_aligned hb),
    (xtsChaining_keeps hd).blockAt_result (fun _ => ht) (blockOk_of_aligned .xts hb) hj,
    after_of_counting (g := mulAlpha) (fun _ _ => rfl) t hj]
  rfl

section
variable {data : Bytes} {k : Nat} (h : EndsPartial data k)
include h

theorem blockAt_xts_of_endsPartial {j : Nat} (hj : j < k) :
    blockAt (xtsBlocks f steal t (blocks data)) j = f (blockAt data j) (mulAlpha^[j] t) := by
  have hj' : j < (firstBlocks data k).length := by rwa [firstBlocks_length]
  rw [xts_of_endsPartial h hd, blockAt_flatten (stolenRun_lengths hd ht h), List.getD_append _ _ _ _ (by simpa using hj),
    Chaining.run_getD _ _ hj', Chaining.after_of_next_const (g := mulAlpha) fun _ _ => rfl]
  simp [xtsChaining, firstBlocks, hj, hj.le]

/-- The last two result blocks are the stolen ones. -/
theorem stolen_eq_last_blocks :
    stolen (mulAlpha^[k] t) (blockAt data k) (blockAt data (k + 1)) =
      [blockAt (xtsBlocks f steal t (blocks data)) k, blockAt (xtsBlocks f steal t (blocks data)) (k + 1)] := by
  have hlen := stolenRun_lengths hd ht h
  have h2 := congrArg List.length
    (hd.stolen_lengths _ (blockAt data k) _ (iterate_mulAlpha_length ht k) (last_blocks_length h).2.le)
  obtain ⟨a, b, hab⟩ := List.length_eq_two.mp ((List.length_map _).symm.trans h2)
  rw [xts_of_endsPartial h hd, blockAt_flatten hlen, blockAt_flatten hlen, hab,
    List.getD_append_right _ _ _ _ (by simp), List.getD_append_right _ _ _ _ (by simp)]
  simp

end

/-- R175 and R176 in one form: each full block with its tweak, but the last two blocks of data that ends in a partial one
by stealing. -/
theorem xts_block_by_block {data : Bytes} (hl : 16 ≤ data.length) :
    (xtsBlocks f steal t (blocks data)).length = data.length ∧
    (∀ j, j < (if data.length % 16 = 0 then data.length / 16 else data.length / 16 - 1) →
      blockAt (xtsBlocks f steal t (blocks data)) j = f (blockAt data j) (mulAlpha^[j] t)) ∧
    (data.length % 16 ≠ 0 → ∀ k, data.length / 16 = k + 1 →
      stolen (mulAlpha^[k] t) (blockAt data k) (blockAt data (k + 1)) =
        [blockAt (xtsBlocks f steal t (blocks data)) k, blockAt (xtsBlocks f steal t (blocks data)) (k + 1)]) := by
  refine ⟨xts_length hd ht (.inr hl), fun j hj => ?_, fun hb k hk => stolen_eq_last_blocks hd ht ⟨by omega, by omega⟩⟩
  split at hj
  · next hb => exact blockAt_xts_of_aligned hd ht hb (by omega)
  · next hb =>
    obtain ⟨k, hk⟩ : ∃ k, data.length / 16 = k + 1 := ⟨data.length / 16 - 1, by omega⟩
    exact blockAt_xts_of_endsPartial hd ht (k := k) ⟨by omega, by omega⟩ (by omega)

end

/-! ## Decryption undoes encryption -/

section
variable {ks t : Bytes} (hk : ks.length = 240) (ht : t.length = 16)
include hk ht

/-- The stolen bytes come back with the last tweak, and complete the block that lacks them. -/
theorem stolenDecrypt_stolenEncrypt {x p a b : Bytes} (hx : x.length = 16) (hp : p.length < 16)
    (h : stolenEncrypt ks t x p = [a, b]) : stolenDecrypt ks t a b = [x, p] := by
  simp only [stolenEncrypt, List.cons.injEq, and_true] at h
  obtain ⟨rfl, rfl⟩ := h
  have hcc := xtsE_length hk x ht
  have hpp := xtsD_xtsE hk (x := p ++ (xtsE ks x t).drop p.length) (by simp [hcc]; omega) (mulAlpha_length ht)
  have hb : ((xtsE ks x t).take p.length).length = p.length := by simp [hcc, hp.le]
  rw [stolenDecrypt, hpp, hb, List.drop_left, List.take_left, List.take_append_drop, xtsD_xtsE hk hx ht]

theorem xtsRun_undone {xs : List Bytes} (hxs : ∀ x ∈ xs, x.length = 16) :
    (xtsChaining (xtsD ks)).run t ((xtsChaining (xtsE ks)).run t xs) = xs :=
  (decryptChaining_undoes hk .xts).run_run (encryptChaining_keeps hk .xts) (fun _ => ht)
    fun x hx => blockOk_of_full .xts (hxs x hx)

theorem xtsDecrypt_xtsEncrypt {data : Bytes} (hl : data.length = 0 ∨ 16 ≤ data.length) :
    xtsBlocks (xtsD ks) (xtsStealDecrypt ks) t (blocks (xtsBlocks (xtsE ks) (xtsStealEncrypt ks) t (blocks data))) =
      data := by
  have hd := xtsEncryptDirection hk
  generalize hc : xtsBlocks (xtsE ks) (xtsStealEncrypt ks) t (blocks data) = c
  obtain hb | ⟨k, h⟩ := aligned_or_endsPartial hl
  · have hfull := length_of_mem_blocks_of_aligned hb
    have hcl : c.length = data.length := hc ▸ xts_length hd ht hl
    rw [xtsBlocks_of_full _ _ t hfull] at hc
    rw [xtsBlocks_of_full _ _ t (length_of_mem_blocks_of_aligned (by rw [hcl, hb])), ← hc,
      (xtsChaining_keeps hd).blocks_result (fun _ => ht) (blockOk_of_aligned .xts hb), xtsRun_undone hk ht hfull,
      blocks_flatten]
  · have hlen := stolenRun_lengths hd ht h
    obtain ⟨hx, hp⟩ := last_blocks_length h
    rw [xts_of_endsPartial h hd] at hc
    have hce : EndsPartial c k := by rw [EndsPartial, ← hc, flatten_length_of_lengths hlen]; exact h
    have hcb := blocks_of_endsPartial hce
    rw [← hc, blocks_flatten_of_lengths hlen, hc] at hcb
    obtain ⟨hfirst, hlast⟩ := List.append_inj hcb (by simp)
    rw [xts_of_endsPartial hce (xtsDecryptDirection hk), ← hfirst,
      xtsRun_undone hk ht (length_of_mem_firstBlocks h),
      stolenDecrypt_stolenEncrypt hk (iterate_mulAlpha_length ht k) hx hp hlast, ← blocks_of_endsPartial h,
      blocks_flatten]

end

end Sys2Proof.Machine

namespace Sys2Proof.Proofs

open Sys2Proof Sys2Proof.Machine

/-- Settles O26: the tweaks are those of the run, and the last two blocks are those of stealing on encryption. -/
theorem xtsEncryptsBlockByBlock : Obligations.XtsEncryptsBlockByBlock := by
  rintro ks ks2 iv data m b tweak hk hk2 - hl rfl rfl ht0 hts
  have htweak := iterate_mulAlpha_of_tweaks ht0 hts
  obtain ⟨hlen, hfull, hpartial⟩ := xts_block_by_block (xtsEncryptDirection hk) (encryptBlock_length ks2 iv hk2) hl
  refine ⟨hlen, fun j hj => htweak j ▸ hfull j hj, ?_⟩
  rintro hb cc pp rfl rfl
  obtain ⟨k, hm⟩ : ∃ k, data.length / 16 = k + 1 := ⟨data.length / 16 - 1, by omega⟩
  have hp : (blockAt data (k + 1)).length = data.length % 16 := by rw [blockAt_length]; omega
  have hlast := hpartial hb k hm
  rw [htweak, stolenEncrypt, hp, ← hts] at hlast
  obtain ⟨hk, hk1⟩ := List.cons_eq_cons.mp hlast
  rw [hm, Nat.add_sub_cancel]
  exact ⟨hk.symm, (List.head_eq_of_cons_eq hk1).symm⟩

/-- Settles O27: as for encryption, the last two blocks being those of stealing on decryption. -/
theorem xtsDecryptsBlockByBlock : Obligations.XtsDecryptsBlockByBlock := by
  rintro ks ks2 iv data m b tweak hk hk2 - hl rfl rfl ht0 hts
  have htweak := iterate_mulAlpha_of_tweaks ht0 hts
  obtain ⟨hlen, hfull, hpartial⟩ := xts_block_by_block (xtsDecryptDirection hk) (encryptBlock_length ks2 iv hk2) hl
  refine ⟨hlen, fun j hj => htweak j ▸ hfull j hj, ?_⟩
  rintro hb pp cc rfl rfl
  obtain ⟨k, hm⟩ : ∃ k, data.length / 16 = k + 1 := ⟨data.length / 16 - 1, by omega⟩
  have hp : (blockAt data (k + 1)).length = data.length % 16 := by rw [blockAt_length]; omega
  have hlast := hpartial hb k hm
  rw [htweak, stolenDecrypt, hp, ← hts] at hlast
  obtain ⟨hk, hk1⟩ := List.cons_eq_cons.mp hlast
  rw [hm, Nat.add_sub_cancel]
  exact ⟨hk.symm, (List.head_eq_of_cons_eq hk1).symm⟩

end Sys2Proof.Proofs

/-! SUPPORT. What holds of every mode (R180), and the numbers that the counter and the tweak are (R171, R174). -/

namespace Sys2Proof.Machine

/-! ## Every mode (R180 (a), (b)) -/

section
variable {m : Mode} {data ks ks2 iv : Bytes} (hk : ks.length = 240) (hk2 : ks2.length = 240) (hi : iv.length = 16)
  (hl : legalLength m data.length)
include hk hk2 hi hl

theorem driveEncrypt_length_of_legal : (driveEncrypt m data ks ks2 iv).length = data.length := by
  by_cases hm : m = .xts
  · subst hm
    exact xts_length (xtsEncryptDirection hk) (encryptBlock_length ks2 iv hk2) hl
  · exact driveEncrypt_length hk hm (fun _ => hi) hl ks2

theorem driveDecrypt_length_of_legal : (driveDecrypt m data ks ks2 iv).length = data.length := by
  by_cases hm : m = .xts
  · subst hm
    exact xts_length (xtsDecryptDirection hk) (encryptBlock_length ks2 iv hk2) hl
  · exact driveDecrypt_length hk hm (fun _ => hi) hl ks2

theorem driveDecrypt_driveEncrypt_of_legal : driveDecrypt m (driveEncrypt m data ks ks2 iv) ks ks2 iv = data := by
  by_cases hm : m = .xts
  · subst hm
    exact xtsDecrypt_xtsEncrypt hk (encryptBlock_length ks2 iv hk2) hl
  · exact driveDecrypt_driveEncrypt hk hm (fun _ => hi) hl ks2

end

/-! ## Equal blocks (R180 (c)) -/

theorem xorBytes_right_injective {x c c' : Bytes} (hc : c.length = x.length) (hc' : c'.length = x.length)
    (h : xorBytes x c = xorBytes x c') : c = c' := by
  have hcomm (a : Bytes) : xorBytes x a = xorBytes a x := List.zipWith_comm_of_comm fun _ _ => BitVec.xor_comm ..
  calc c = xorBytes (xorBytes c x) x := (xorBytes_cancel c x hc.le).symm
    _ = xorBytes (xorBytes c' x) x := by rw [← hcomm c, h, hcomm c']
    _ = c' := xorBytes_cancel c' x hc'.le

/-- One block, encrypted under two chaining values, has one result exactly when they are equal. -/
theorem encryptBlock_xorBytes_inj {ks x c c' : Bytes} (hk : ks.length = 240) (hx : x.length = 16) (hc : c.length = 16)
    (hc' : c'.length = 16) : encryptBlock ks (xorBytes x c) = encryptBlock ks (xorBytes x c') ↔ c = c' := by
  refine ⟨fun h => xorBytes_right_injective (hc.trans hx.symm) (hc'.trans hx.symm) ?_, fun h => h ▸ rfl⟩
  rw [← decryptBlock_encryptBlock hk (b := xorBytes x c) (by simp [hx, hc]), h,
    decryptBlock_encryptBlock hk (by simp [hx, hc'])]

/-! ## A part of the data, from its start (R180 (e)) -/

section
variable {k : Chaining} (hlen : ∀ c x, x.length ≤ 16 → (k.out c x).length = x.length)
  (htake : ∀ c x n, k.out c (x.take n) = (k.out c x).take n)
include htake

theorem run_take_of_single (c : Bytes) {x : Bytes} (hx : x.length ≤ 16) (n : Nat) :
    (k.run c (blocks (x.take n))).flatten = (k.out c x).take n := by
  by_cases h0 : x.take n = []
  · have h := htake c x n
    rw [h0] at h
    have hnil : k.out c [] = [] := by simpa using htake c [] 0
    rw [h0, ← h, hnil]
    rfl
  · rw [blocks_single _ h0 (by simp; omega), Chaining.run, htake]
    simp [Chaining.run]

include hlen

/-- The bytes of the result come one by one, in order, from those of the data. -/
theorem run_take (c data : Bytes) (n : Nat) :
    (k.run c (blocks (data.take n))).flatten = (k.run c (blocks data)).flatten.take n := by
  induction data using blocks_induction generalizing c n with
  | nil => simp [Chaining.run]
  | short x h0 hx =>
    rw [run_take_of_single htake c hx.le, blocks_single x h0 hx.le]
    simp [Chaining.run]
  | full x rest hx ih =>
    have ho : (k.out c x).length = 16 := (hlen c x hx.le).trans hx
    rw [blocks_cons x rest hx, Chaining.run, List.flatten_cons]
    by_cases hn : n ≤ 16
    · rw [List.take_append_of_le_length (by omega), List.take_append_of_le_length (by omega),
        run_take_of_single htake c hx.le]
    · obtain ⟨n, rfl⟩ : ∃ r, n = 16 + r := ⟨n - 16, by omega⟩
      rw [← hx, List.take_length_add_append, blocks_cons x _ hx, Chaining.run, List.flatten_cons, ih, hx, ← ho,
        List.take_length_add_append]

end

theorem xorBytes_take (x k : Bytes) (n : Nat) : xorBytes (x.take n) k = (xorBytes x k).take n := by
  refine List.ext_getElem (by simp [Nat.min_assoc]) fun i _ _ => ?_
  simp [xorBytes]

/-- In a stream mode a result block is the data block XOR a keystream block (R168, R169, R172). -/
theorem encryptChaining_out_of_stream {m : Mode} (hm : streamMode m = true) (ks c x : Bytes) :
    (encryptChaining ks m).out c x = xorBytes x (encryptBlock ks c) := by
  cases m with
  | ofb | cfb | ctr => exact applyKeystream_eq_xorBytes x _
  | ecb | cbc | xts => cases hm

theorem driveEncrypt_take {m : Mode} (hm : streamMode m = true) {ks : Bytes} (hk : ks.length = 240)
    (data ks2 iv : Bytes) (n : Nat) :
    driveEncrypt m (data.take n) ks ks2 iv = (driveEncrypt m data ks ks2 iv).take n := by
  have hx := ne_xts_of_stream hm
  have ho := encryptChaining_out_of_stream hm ks
  rw [driveEncrypt_eq_run hx, driveEncrypt_eq_run hx, run_take]
  · intro c x hl
    rw [ho, xorBytes_length, encryptBlock_length _ _ hk, Nat.min_eq_left hl]
  · intro c x n
    rw [ho, ho, xorBytes_take]

end Sys2Proof.Machine

namespace Sys2Proof.Proofs

open Sys2Proof Sys2Proof.Machine

/-- Settles O30: a result is as long as its data, so decryption passes the same checks. -/
theorem modeDecryptInvertsModeEncrypt : Obligations.ModeDecryptInvertsModeEncrypt := by
  intro m data ks ks2 iv hk hk2 hi hl
  have hlen := driveEncrypt_length_of_legal hk hk2 hi hl
  refine ⟨_, modeEncrypt_of_legal (fun _ => hi) hl ks ks2, ?_⟩
  rw [modeDecrypt_of_legal (fun _ => hi) (by rwa [hlen]), driveDecrypt_driveEncrypt_of_legal hk hk2 hi hl]

/-- Settles O31: a run keeps the length of each block, and so does stealing. -/
theorem modesKeepTheLength : Obligations.ModesKeepTheLength := fun _ _ _ _ _ hk hk2 hi hl =>
  ⟨driveEncrypt_length_of_legal hk hk2 hi hl, driveDecrypt_length_of_legal hk hk2 hi hl⟩

/-- Settles O29: by the equations of a block; the block cipher is undone, so equal CBC blocks had equal inputs. -/
theorem equalBlocksInEcbAndCbc : Obligations.EqualBlocksInEcbAndCbc := by
  intro ks ks2 iv data j k hk hi hl hj hk' hjk
  obtain ⟨-, -, hecb, hcbc⟩ := blockModesBlockByBlock ks ks2 iv data hk hl
  obtain ⟨hlen, -, hcbc⟩ := hcbc hi
  refine ⟨by rw [(hecb j hj).1, (hecb k hk').1, hjk], fun chain hchain => ?_⟩
  have hc {n : Nat} (hn : 16 * n < data.length) : (chain n).length = 16 := by
    rw [hchain]
    split
    · exact hi
    · rw [blockAt_length, hlen]
      omega
  have hx : (blockAt data k).length = 16 := by rw [blockAt_length]; omega
  rw [(hcbc j hj).1, (hcbc k hk').1, ← hchain, ← hchain, hjk]
  exact encryptBlock_xorBytes_inj hk hx (hc hj) (hc hk')

/-- Settles O32: OFB and CTR decrypt as they encrypt; in a stream mode each byte is XORed with one of the keystream. -/
theorem streamModesAreKeystreams : Obligations.StreamModesAreKeystreams := fun data ks ks2 iv n hk hi =>
  ⟨driveDecrypt_driveEncrypt hk (m := .ofb) (by decide) (fun _ => hi) trivial ks2,
    driveDecrypt_driveEncrypt hk (m := .ctr) (by decide) (fun _ => hi) trivial ks2,
    fun _ hm => driveEncrypt_take hm hk data ks2 iv n⟩

end Sys2Proof.Proofs

/-! SUPPORT. The counter and the tweak as numbers (R171, R174): a block read least byte first has bit `8 * k + r` in bit
`r` of byte `k`, and two numbers with the same bits are the same. -/

namespace Sys2Proof.Machine

/-! ## Bits of a block -/

theorem beToNat_concat (t : Bytes) (b : Byte) : beToNat (t ++ [b]) = 2 ^ 8 * beToNat t + b.toNat := by
  simp [beToNat, Nat.mul_comm]

/-- The bits of a block read little-endian. -/
theorem testBit_beToNat_reverse (t : Bytes) (i : Nat) :
    (beToNat t.reverse).testBit i = (byteAt t (i / 8)).getLsbD (i % 8) := by
  induction t generalizing i with
  | nil => simp [beToNat, byteAt]
  | cons b t ih =>
    rw [List.reverse_cons, beToNat_concat, Nat.testBit_two_pow_mul_add _ b.isLt]
    by_cases hi : i < 8
    · rw [if_pos hi, BitVec.testBit_toNat, Nat.div_eq_of_lt hi, Nat.mod_eq_of_lt hi]
      rfl
    · have hd : i / 8 = (i - 8) / 8 + 1 := by omega
      have hm : i % 8 = (i - 8) % 8 := by omega
      rw [if_neg hi, ih, hd, hm]
      rfl

theorem byteAt_of_length_le {t : Bytes} {k : Nat} (h : t.length ≤ k) : byteAt t k = 0#8 := List.getD_eq_default _ _ h

theorem beToNat_reverse_lt {t : Bytes} (h : t.length = 16) : beToNat t.reverse < 2 ^ 128 := by
  refine Nat.lt_pow_two_of_testBit _ fun i hi => ?_
  rw [testBit_beToNat_reverse, byteAt_of_length_le (by omega), BitVec.getLsbD_zero]

/-! ## Inc128 (R171) -/

@[simp] theorem beOfNat_length (n : Nat) : (beOfNat n).length = 16 := by simp [beOfNat]

/-- Byte `k` from the end holds bits `8 * k` to `8 * k + 7`. -/
theorem byteAt_beOfNat_reverse (n : Nat) {k : Nat} (hk : k < 16) :
    byteAt (beOfNat n).reverse k = BitVec.ofNat 8 (n / 2 ^ (8 * k)) := by
  have h : 15 - (15 - k) = k := by omega
  simp [byteAt, beOfNat, hk, h, Nat.pow_mul]

theorem beToNat_beOfNat {n : Nat} (hn : n < 2 ^ 128) : beToNat (beOfNat n) = n := by
  rw [← List.reverse_reverse (beOfNat n)]
  refine Nat.eq_of_testBit_eq fun i => ?_
  rw [testBit_beToNat_reverse]
  by_cases hi : i < 128
  · rw [byteAt_beOfNat_reverse n (by omega), BitVec.getLsbD_ofNat, Nat.testBit_div_two_pow, Nat.mod_add_div]
    simp [Nat.mod_lt]
  · have h2 : 2 ^ 128 ≤ 2 ^ i := Nat.pow_le_pow_right (by decide) (by omega)
    rw [byteAt_of_length_le (by simp; omega), BitVec.getLsbD_zero, Nat.testBit_lt_two_pow (hn.trans_le h2)]

theorem beToNat_reverse_injective {s t : Bytes} (hs : s.length = t.length) (h : beToNat s.reverse = beToNat t.reverse) :
    s = t := by
  refine List.ext_getElem hs fun k h1 h2 => BitVec.eq_of_getLsbD_eq fun r hr => ?_
  have hb := congrArg (Nat.testBit · (8 * k + r)) h
  simp only [testBit_beToNat_reverse] at hb
  have hd : (8 * k + r) / 8 = k := by omega
  have hm : (8 * k + r) % 8 = r := by omega
  simpa [hd, hm, byteAt, h1, h2] using hb

theorem beToNat_lt {t : Bytes} (h : t.length = 16) : beToNat t < 2 ^ 128 := by
  simpa using beToNat_reverse_lt (t := t.reverse) (by simpa using h)

theorem beOfNat_beToNat {t : Bytes} (h : t.length = 16) : beOfNat (beToNat t) = t := by
  refine List.reverse_injective (beToNat_reverse_injective (by simp [h]) ?_)
  rw [List.reverse_reverse, List.reverse_reverse, beToNat_beOfNat (beToNat_lt h)]

theorem beToNat_inc128 (t : Bytes) : beToNat (inc128 t) = (beToNat t + 1) % 2 ^ 128 :=
  beToNat_beOfNat (Nat.mod_lt _ (by decide))

/-- The counter of block `j` (R172). -/
theorem iterate_inc128 {t : Bytes} (h : t.length = 16) (j : Nat) :
    inc128^[j] t = beOfNat ((beToNat t + j) % 2 ^ 128) := by
  induction j with
  | zero => rw [Nat.add_zero, Nat.mod_eq_of_lt (beToNat_lt h), beOfNat_beToNat h]; rfl
  | succ j ih =>
    rw [Function.iterate_succ_apply', ih, inc128, beToNat_beOfNat (Nat.mod_lt _ (by decide)), Nat.mod_add_mod, Nat.add_assoc]

/-! ## MulAlpha (R174) -/

/-- What is added in byte 0 where the shift loses a bit. -/
def tweakCarry (t : Bytes) : Byte := if (byteAt t 15).getLsbD 7 then 0x87 else 0

theorem byteAt_mulAlpha_zero (t : Bytes) :
    byteAt (mulAlpha t) 0 = byteAt t 0 <<< 1 ^^^ tweakCarry t := by
  show (if (byteAt t 15).getLsbD 7 then _ else _) = _
  unfold tweakCarry
  split <;> simp

theorem byteAt_mulAlpha_succ {t : Bytes} {k : Nat} (hk : k + 1 < t.length) :
    byteAt (mulAlpha t) (k + 1) = byteAt t (k + 1) <<< 1 ||| byteAt t k >>> 7 := by
  have hk0 : k < t.length := by omega
  have hk1 : k < t.length - 1 := by omega
  simp [byteAt, mulAlpha, hk, hk0, hk1]

theorem tweakCarry_toNat {t : Bytes} (h : t.length = 16) :
    (tweakCarry t).toNat = if 2 ^ 127 ≤ beToNat t.reverse then 0x87 else 0 := by
  have hlt := beToNat_reverse_lt h
  have htop : (byteAt t 15).getLsbD 7 = decide (2 ^ 127 ≤ beToNat t.reverse) := by
    rw [← testBit_beToNat_reverse t 127, Nat.testBit_eq_decide_div_mod_eq, decide_eq_decide]
    omega
  rw [tweakCarry, htop, apply_ite BitVec.toNat]
  simp only [decide_eq_true_eq]
  rfl

/-- The shift moves each bit up by one, across the bytes. -/
theorem getLsbD_mulAlpha {t : Bytes} (h : t.length = 16) {i : Nat} (hi : i < 128) :
    (byteAt (mulAlpha t) (i / 8)).getLsbD (i % 8) =
      ((decide (1 ≤ i) && (byteAt t ((i - 1) / 8)).getLsbD ((i - 1) % 8)) ^^ (tweakCarry t).getLsbD i) := by
  have hr : i % 8 < 8 := Nat.mod_lt _ (by decide)
  by_cases h8 : i < 8
  · have hd : (i - 1) / 8 = 0 := by omega
    have hm : (i - 1) % 8 = i - 1 := by omega
    rw [Nat.div_eq_of_lt h8, Nat.mod_eq_of_lt h8, hd, hm, byteAt_mulAlpha_zero, BitVec.getLsbD_xor,
      BitVec.getLsbD_shiftLeft]
    simp [h8, Nat.one_le_iff_ne_zero]
  · obtain ⟨k, hk⟩ : ∃ k, i / 8 = k + 1 := ⟨i / 8 - 1, by omega⟩
    rw [hk, byteAt_mulAlpha_succ (by omega), BitVec.getLsbD_or, BitVec.getLsbD_shiftLeft, BitVec.getLsbD_ushiftRight,
      BitVec.getLsbD_of_ge (tweakCarry t) i (by omega)]
    by_cases h0 : i % 8 = 0
    · have hd : (i - 1) / 8 = k := by omega
      have hm : (i - 1) % 8 = 7 := by omega
      simp [h0, hd, hm, show 1 ≤ i by omega]
    · have hd : (i - 1) / 8 = k + 1 := by omega
      have hm : (i - 1) % 8 = i % 8 - 1 := by omega
      rw [BitVec.getLsbD_of_ge (byteAt t k) (7 + i % 8) (by omega)]
      simp [hr, h0, hd, hm, show 1 ≤ i by omega]

end Sys2Proof.Machine

namespace Sys2Proof.Proofs

open Sys2Proof Sys2Proof.Machine

/-- Settles O28: the counter by its number, the tweak bit by bit. -/
theorem counterAndTweakStep : Obligations.CounterAndTweakStep := by
  intro t h
  refine ⟨beOfNat_length _, beToNat_inc128 t, mulAlpha_length h, Nat.eq_of_testBit_eq fun i => ?_⟩
  rw [← tweakCarry_toNat h, Nat.testBit_xor, BitVec.testBit_toNat, Nat.testBit_mod_two_pow, ← Nat.pow_one 2,
    Nat.testBit_two_pow_mul, testBit_beToNat_reverse, testBit_beToNat_reverse]
  by_cases hi : i < 128
  · rw [getLsbD_mulAlpha h hi]
    simp [hi]
  · rw [byteAt_of_length_le (by rw [mulAlpha_length h]; omega)]
    simp [hi, BitVec.getLsbD_of_ge _ i (show 8 ≤ i by omega)]

/-- Settles O25: the chaining value is a number of encryptions of the IV, the block before, or the counter. -/
theorem streamModesBlockByBlock : Obligations.StreamModesBlockByBlock := by
  intro ks ks2 iv data hk hi
  refine ⟨fun m hm => ⟨driveEncrypt_length hk (ne_xts_of_stream hm) (fun _ => hi) (legalLength_of_stream hm _) ks2,
    driveDecrypt_length hk (ne_xts_of_stream hm) (fun _ => hi) (legalLength_of_stream hm _) ks2⟩, rfl, rfl, fun j hj => ?_⟩
  have he {m : Mode} (hm : streamMode m = true) : blockAt (driveEncrypt m data ks ks2 iv) j = xorBytes (blockAt data j)
      (encryptBlock ks ((encryptChaining ks m).after iv ((blocks data).take j))) :=
    (blockAt_driveEncrypt hk (ne_xts_of_stream hm) (fun _ => hi) (legalLength_of_stream hm _) hj ks2).trans
      (encryptChaining_out_of_stream hm ..)
  refine ⟨?_, ?_, ?_, ?_⟩
  · rw [he rfl, after_of_counting (g := encryptBlock ks) (fun _ _ => rfl) iv hj, Function.iterate_succ_apply']
  · rw [he rfl, after_of_result_feedback hk (m := .cfb) (by decide) (fun _ => hi) trivial hj ks2 rfl]
  · rw [blockAt_driveDecrypt hk (m := .cfb) (by decide) (fun _ => hi) trivial hj ks2,
      after_of_data_feedback (fun _ _ => rfl) iv hj]
    exact applyKeystream_eq_xorBytes ..
  · rw [he rfl, after_of_counting (g := inc128) (fun _ _ => rfl) iv hj, iterate_inc128 hi]

end Sys2Proof.Proofs

/-! SUPPORT. The IV Manager (spec/43_iv_manager.md): its two resolutions case by case, and its commands that embed an IV and
take it out again. -/

namespace Sys2Proof.Machine

theorem needsIv_iff (m : Mode) : needsIv m = true ↔ m ≠ .ecb := by cases m <;> simp [needsIv]

/-! ## ResolveIvEnc (R191) -/

theorem resolveIvEnc_of_ecb_or_explicit {m : Mode} {v : Policy} (h : m = .ecb ∨ v = .explicit) (s : State) :
    resolveIvEnc m v s = { s with embed := false } := by
  obtain rfl | rfl := h
  · rfl
  · cases m <;> rfl

theorem resolveIvEnc_flag1 {m : Mode} (h : m ≠ .ecb) (s : State) :
    resolveIvEnc m .flag1 s = { s.drawn 16 with ivBuf := s.rand 16, embed := true } := if_pos ((needsIv_iff m).mpr h)

theorem resolveIvEnc_flag0 {m : Mode} (h : m ≠ .ecb) (s : State) :
    resolveIvEnc m .flag0 s = { s with ivBuf := [], embed := false } := if_pos ((needsIv_iff m).mpr h)

/-! ## ResolveIvDec (R192) -/

theorem resolveIvDec_of_ecb_or_explicit {m : Mode} {v : Policy} (h : m = .ecb ∨ v = .explicit) (d : Bytes) (s : State) :
    resolveIvDec m v d s = ({ s with embed := false }, .ok d) := by
  obtain rfl | rfl := h
  · rfl
  · cases m <;> rfl

theorem resolveIvDec_flag1_of_lt {m : Mode} (h : m ≠ .ecb) {d : Bytes} (hd : d.length < 16) (s : State) :
    resolveIvDec m .flag1 d s = (s, .error .missingIv) := (if_pos ((needsIv_iff m).mpr h)).trans (if_pos hd)

theorem resolveIvDec_flag1_of_not_lt {m : Mode} (h : m ≠ .ecb) {d : Bytes} (hd : ¬d.length < 16) (s : State) :
    resolveIvDec m .flag1 d s = ({ s with ivBuf := d.take 16, embed := false }, .ok (d.drop 16)) :=
  (if_pos ((needsIv_iff m).mpr h)).trans (if_neg hd)

theorem resolveIvDec_flag0 {m : Mode} (h : m ≠ .ecb) (d : Bytes) (s : State) :
    resolveIvDec m .flag0 d s = ({ s with ivBuf := [], embed := false }, .ok d) := if_pos ((needsIv_iff m).mpr h)

/-! ## The commands -/

/-- IVRE commits its resolution with no result: no rule of R191 raises (R193). -/
theorem exec_ivre (m : Mode) (v : Policy) (s : State) :
    exec (.ivre m v) s = .next (resultState (resolveIvEnc m v s) []) := rfl

theorem exec_ivrd_of_ok {m : Mode} {v : Policy} {s t : State} {rest : Bytes}
    (h : resolveIvDec m v s.inBuf s = (t, .ok rest)) : exec (.ivrd m v) s = .next (resultState t rest) :=
  runCommand_of_ok false (ivrdRule m v) s t rest h

/-- IVRD raises MissingIv, code 5, before it writes (R192, R194). -/
theorem exec_ivrd_of_missing {m : Mode} {v : Policy} {s : State}
    (h : resolveIvDec m v s.inBuf s = (s, .error .missingIv)) : exec (.ivrd m v) s = .next (failedState s 5) :=
  runCommand_of_error false (ivrdRule m v) s s .missingIv h

theorem exec_ivpp (s : State) : exec .ivpp s = .next (resultState s (prependIv s s.inBuf)) := rfl

theorem prependIv_of_embed {s : State} (h : s.embed = true) (data : Bytes) : prependIv s data = s.ivBuf ++ data := if_pos h

/-- ResolveIvDec takes a prepended IV off again (R196 (a)). -/
theorem resolveIvDec_append {m : Mode} (hm : m ≠ .ecb) {iv : Bytes} (hi : iv.length = 16) (c : Bytes) (s : State) :
    resolveIvDec m .flag1 (iv ++ c) s = ({ s with ivBuf := iv, embed := false }, .ok c) := by
  have hl : ¬(iv ++ c).length < 16 := by simp [hi]
  rw [resolveIvDec_flag1_of_not_lt hm hl, List.take_left' hi, List.drop_left' hi]

end Sys2Proof.Machine

namespace Sys2Proof.Proofs

open Sys2Proof Sys2Proof.Machine

/-- Settles O36: IVRE's draw is 16 bytes, so what IVPP puts in front is what IVRD takes off. -/
theorem embeddedIvIsRecovered : Obligations.EmbeddedIvIsRecovered := by
  intro s t u v m c hm ht hu hv
  obtain rfl : resultState (resolveIvEnc m .flag1 s) [] = t := by injection ht
  rw [resolveIvEnc_flag1 hm] at hu ⊢
  have hi : (s.rand 16).length = 16 := State.rand_length s 16
  rw [exec_ivpp, prependIv_of_embed rfl] at hu
  injection hu with hu
  subst hu
  rw [exec_ivrd_of_ok (resolveIvDec_append hm hi c _)] at hv
  injection hv with hv
  subst hv
  exact ⟨rfl, rfl, rfl, rfl, hi⟩

/-- Settles O33: by the cases of R191. -/
theorem ivreResolvesTheIv : Obligations.IvreResolvesTheIv := by
  intro s m v
  rw [exec_ivre]
  by_cases h : m = .ecb ∨ v = .explicit
  · rw [if_pos h, resolveIvEnc_of_ecb_or_explicit h]
    rfl
  · obtain ⟨hm, hv⟩ := not_or.mp h
    rw [if_neg h]
    cases v with
    | explicit => exact absurd rfl hv
    | flag1 => rw [if_pos rfl, resolveIvEnc_flag1 hm]; rfl
    | flag0 => rw [if_neg (by decide), resolveIvEnc_flag0 hm]; rfl

/-- Settles O34: by the cases of R192; scheme None adds no bit to the word. -/
theorem ivrdExtractsTheIv : Obligations.IvrdExtractsTheIv := by
  intro s m v
  refine ⟨by simp [encode, rowMatch, rowOperands, operandWord, Scheme.code, BitVec.or_assoc], ?_⟩
  by_cases h : m = .ecb ∨ v = .explicit
  · rw [if_pos h]
    exact exec_ivrd_of_ok (resolveIvDec_of_ecb_or_explicit h s.inBuf s)
  · obtain ⟨hm, hv⟩ := not_or.mp h
    rw [if_neg h]
    cases v with
    | explicit => exact absurd rfl hv
    | flag0 => exact exec_ivrd_of_ok (resolveIvDec_flag0 hm s.inBuf s)
    | flag1 =>
      rw [if_pos rfl]
      split
      · next hd => exact exec_ivrd_of_missing (resolveIvDec_flag1_of_lt hm hd s)
      · next hd => exact exec_ivrd_of_ok (resolveIvDec_flag1_of_not_lt hm hd s)

/-- Settles O35: IVPP's rule is the prepending of R195, and it has no error. -/
theorem ivppPrependsTheIv : Obligations.IvppPrependsTheIv := ⟨decode_encode .ivpp, exec_ivpp⟩

end Sys2Proof.Proofs

/-! SUPPORT. The Base64 Codec (spec/44_base64_codec.md): its alphabet, the bits of a group of three bytes, and what its decoder
gives back and accepts. -/

namespace Sys2Proof.Machine

/-! ## The alphabet (R200) -/

theorem b64Val_b64Chr : ∀ v < 64, b64Val (b64Chr v) = some v := by decide

/-- `Chr` undoes `Val`, byte by byte through all 256. -/
theorem b64Chr_of_b64Val {c : Byte} {v : Nat} (h : b64Val c = some v) : v < 64 ∧ b64Chr v = c := by
  have all : ∀ c : Byte, ∀ v ∈ b64Val c, v < 64 ∧ b64Chr v = c := by decide
  exact all c v h

/-- `=` is no value character. -/
theorem ne_padChar_of_isSome {c : Byte} (h : (b64Val c).isSome = true) : c ≠ padChar := by
  rintro rfl
  exact absurd h (by decide)

/-! ## The bits of a group (R201) -/

/-- A byte moved up by at most 16 places keeps all its bits in 24. -/
theorem toNat_shifted_byte (x : Byte) {k : Nat} (hk : k ≤ 16) : (x.setWidth 24 <<< k).toNat = x.toNat <<< k := by
  have hx : x.toNat <<< k < 2 ^ 24 := calc
    x.toNat <<< k < 2 ^ 8 * 2 ^ k := by rw [Nat.shiftLeft_eq]; exact Nat.mul_lt_mul_of_pos_right x.isLt (Nat.two_pow_pos k)
    _ ≤ 2 ^ 24 := by rw [← Nat.pow_add]; exact Nat.pow_le_pow_right (by decide) (by omega)
  rw [BitVec.toNat_shiftLeft, BitVec.toNat_setWidth_of_le (by decide), Nat.mod_eq_of_lt hx]

/-- The number of a group is its three bytes side by side. -/
theorem toNat_group (a b c : Byte) :
    (a.setWidth 24 <<< 16 ||| b.setWidth 24 <<< 8 ||| c.setWidth 24).toNat = group24 a b c := by
  rw [BitVec.or_assoc, BitVec.toNat_or, BitVec.toNat_or, toNat_shifted_byte a (by decide), toNat_shifted_byte b (by decide),
    BitVec.toNat_setWidth_of_le (by decide), ← Nat.shiftLeft_add_eq_or_of_lt c.isLt,
    ← Nat.shiftLeft_add_eq_or_of_lt (by omega), ← Nat.add_assoc, Nat.shiftLeft_eq, Nat.shiftLeft_eq, group24]

theorem sextet_eq_extractLsb' (v : BitVec 24) (k : Nat) :
    sextet v.toNat k = b64Chr (v.extractLsb' (6 * k) 6).toNat := by
  rw [BitVec.extractLsb'_toNat, Nat.shiftRight_eq_div_pow, sextet]

theorem b64Val_sextet (v k : Nat) : b64Val (sextet v k) = some (v / 2 ^ (6 * k) % 64) :=
  b64Val_b64Chr _ (Nat.mod_lt _ (by decide))

theorem isSome_b64Val_sextet (v k : Nat) : (b64Val (sextet v k)).isSome = true := by rw [b64Val_sextet]; rfl

theorem needVal_sextet (v k : Nat) : needVal (sextet v k) = .ok (v / 2 ^ (6 * k) % 64) := by
  rw [needVal, b64Val_sextet]

/-- A 24-bit number is made of its four 6-bit parts again. -/
theorem sextets_sum {v : Nat} (h : v < 2 ^ 24) :
    v / 2 ^ (6 * 3) % 64 * 2 ^ 18 + v / 2 ^ (6 * 2) % 64 * 2 ^ 12 + v / 2 ^ (6 * 1) % 64 * 2 ^ 6 + v / 2 ^ (6 * 0) % 64 = v := by
  omega

theorem group24_lt (a b c : Byte) : group24 a b c < 2 ^ 24 := by unfold group24; omega

/-- The three bytes of a group's number are those of the group. -/
theorem bytes_group24 (a b c : Byte) :
    [BitVec.ofNat 8 (group24 a b c / 2 ^ 16), BitVec.ofNat 8 (group24 a b c / 2 ^ 8), BitVec.ofNat 8 (group24 a b c)] =
      [a, b, c] := by
  have ha : BitVec.ofNat 8 (group24 a b c / 2 ^ 16) = a := by apply BitVec.eq_of_toNat_eq; simp [group24]; omega
  have hb : BitVec.ofNat 8 (group24 a b c / 2 ^ 8) = b := by apply BitVec.eq_of_toNat_eq; simp [group24]; omega
  have hc : BitVec.ofNat 8 (group24 a b c) = c := by apply BitVec.eq_of_toNat_eq; simp [group24]; omega
  rw [ha, hb, hc]

/-- A third byte that counts as 0 leaves the last part 0. -/
theorem last_part_group24 (a b : Byte) : group24 a b 0 / 2 ^ (6 * 0) % 64 = 0 := by
  have hz : (0 : Byte).toNat = 0 := rfl
  rw [group24, hz]
  omega

/-- With the second byte 0 too, so is the part before. -/
theorem third_part_group24 (a : Byte) : group24 a 0 0 / 2 ^ (6 * 1) % 64 = 0 := by
  have hz : (0 : Byte).toNat = 0 := rfl
  rw [group24, hz]
  omega

/-! ## A group of characters -/

/-- The value of a character of a group, 0 where padding stands for it (R202). -/
def valueOrZero (present : Prop) [Decidable present] (c : Byte) : Except ErrorKind Nat :=
  if present then needVal c else .ok 0

/-- The bytes of four 6-bit values, without those that `np` padding characters take away (R202). -/
def groupBytes (np v0 v1 v2 v3 : Nat) : Bytes :=
  let v := v0 * 2 ^ 18 + v1 * 2 ^ 12 + v2 * 2 ^ 6 + v3
  trunc [BitVec.ofNat 8 (v / 2 ^ 16), BitVec.ofNat 8 (v / 2 ^ 8), BitVec.ofNat 8 v] (3 - np)

theorem decodeGroup_eq (np : Nat) (g0 g1 g2 g3 : Byte) :
    decodeGroup np g0 g1 g2 g3 =
      needVal g0 >>= fun v0 => needVal g1 >>= fun v1 => valueOrZero (np < 2) g2 >>= fun v2 =>
        valueOrZero (np < 1) g3 >>= fun v3 => .ok (groupBytes np v0 v1 v2 v3) := by
  unfold decodeGroup valueOrZero
  by_cases h2 : np < 2 <;> by_cases h1 : np < 1 <;> simp only [h1, h2, if_true, if_false] <;> rfl

theorem padChars_of_ne {g3 : Byte} (h : g3 ≠ padChar) (last : Bool) (g2 : Byte) : padChars last g2 g3 = 0 :=
  if_neg (fun hp => h hp.2)

theorem padChars_of_not_last (g2 g3 : Byte) : padChars false g2 g3 = 0 := rfl

theorem padChars_two : padChars true padChar padChar = 2 := rfl

theorem padChars_one {g2 : Byte} (h : g2 ≠ padChar) : padChars true g2 padChar = 1 := by simp only [padChars, h]; rfl

theorem decodeGroups_cons (g0 g1 g2 g3 : Byte) (rest : Bytes) :
    decodeGroups (g0 :: g1 :: g2 :: g3 :: rest) =
      decodeGroup (padChars rest.isEmpty g2 g3) g0 g1 g2 g3 >>= fun bytes => decodeGroups rest >>= fun more =>
        .ok (bytes ++ more) := rfl

/-! ## Decoding what was encoded (R205) -/

/-- A group of the four parts of a number, a part that is zero perhaps padding, decodes to the bytes the padding leaves. -/
theorem decodeGroup_group24 (a b c : Byte) {np : Nat} {g2 g3 : Byte}
    (h2 : valueOrZero (np < 2) g2 = .ok (group24 a b c / 2 ^ (6 * 1) % 64))
    (h3 : valueOrZero (np < 1) g3 = .ok (group24 a b c / 2 ^ (6 * 0) % 64)) :
    decodeGroup np (sextet (group24 a b c) 3) (sextet (group24 a b c) 2) g2 g3 = .ok ([a, b, c].take (3 - np)) := by
  simp only [decodeGroup_eq, needVal_sextet, h2, h3, bind, Except.bind, groupBytes, sextets_sum (group24_lt a b c),
    bytes_group24, trunc]

theorem decodeGroups_of_group_ok {np : Nat} {g0 g1 g2 g3 : Byte} {rest bytes more : Bytes}
    (hp : padChars rest.isEmpty g2 g3 = np) (hg : decodeGroup np g0 g1 g2 g3 = .ok bytes)
    (hr : decodeGroups rest = .ok more) : decodeGroups (g0 :: g1 :: g2 :: g3 :: rest) = .ok (bytes ++ more) := by
  rw [decodeGroups_cons, hp, hg, hr]
  rfl

theorem decodeGroups_b64Encode (x : Bytes) : decodeGroups (b64Encode x) = .ok x := by
  induction x using b64Encode.induct with
  | case1 => rfl
  | case2 a =>
    have hg : decodeGroup 2 _ _ padChar padChar = .ok [a] := decodeGroup_group24 a 0 0
      (congrArg Except.ok (third_part_group24 a).symm) (congrArg Except.ok (last_part_group24 a 0).symm)
    exact decodeGroups_of_group_ok (rest := []) padChars_two hg rfl
  | case3 a b =>
    have hp := ne_padChar_of_isSome (isSome_b64Val_sextet (group24 a b 0) 1)
    have hg : decodeGroup 1 _ _ (sextet (group24 a b 0) 1) padChar = .ok [a, b] := decodeGroup_group24 a b 0
      (needVal_sextet _ 1) (congrArg Except.ok (last_part_group24 a b).symm)
    exact decodeGroups_of_group_ok (rest := []) (padChars_one hp) hg rfl
  | case4 a b c rest ih =>
    have hp := ne_padChar_of_isSome (isSome_b64Val_sextet (group24 a b c) 0)
    have hg : decodeGroup 0 _ _ (sextet (group24 a b c) 1) (sextet (group24 a b c) 0) = .ok [a, b, c] :=
      decodeGroup_group24 a b c (needVal_sextet _ 1) (needVal_sextet _ 0)
    exact decodeGroups_of_group_ok (padChars_of_ne hp _ _) hg ih

theorem b64Encode_length (x : Bytes) : (b64Encode x).length = 4 * ((x.length + 2) / 3) := by
  induction x using b64Encode.induct with
  | case1 | case2 | case3 => simp [b64Encode]
  | case4 a b c rest ih =>
    simp only [b64Encode, List.length_cons, ih]
    omega

theorem b64Decode_b64Encode (x : Bytes) : b64Decode (b64Encode x) = .ok x := by
  rw [b64Decode, if_neg (by rw [b64Encode_length]; omega), decodeGroups_b64Encode]

theorem mem_b64Encode (x : Bytes) : ∀ c ∈ b64Encode x, (b64Val c).isSome = true ∨ c = padChar := by
  induction x using b64Encode.induct with
  | case1 => simp [b64Encode]
  | case2 | case3 => simp [b64Encode, isSome_b64Val_sextet]
  | case4 a b c rest ih => simpa [b64Encode, isSome_b64Val_sextet] using ih

/-! ## The form of a text (R202) -/

/-- A text in the form of R202, its length aside: value characters, then at most two `=`. -/
def PaddedText (t : Bytes) : Prop :=
  ∃ (v : Bytes) (np : Nat), t = v ++ List.replicate np padChar ∧ np ≤ 2 ∧ ∀ c ∈ v, (b64Val c).isSome = true

theorem paddedText_replicate {np : Nat} (h : np ≤ 2) : PaddedText (List.replicate np padChar) := ⟨[], np, rfl, h, by simp⟩

theorem paddedText_nil : PaddedText [] := paddedText_replicate (np := 0) (by decide)

theorem paddedText_padChar : PaddedText [padChar] := paddedText_replicate (np := 1) (by decide)

/-- A value character in front keeps the form. -/
theorem PaddedText.cons {c : Byte} {t : Bytes} (hc : (b64Val c).isSome = true) (ht : PaddedText t) : PaddedText (c :: t) := by
  obtain ⟨v, np, rfl, hn, hv⟩ := ht
  exact ⟨c :: v, np, rfl, hn, List.forall_mem_cons.mpr ⟨hc, hv⟩⟩

/-- The first character of such a text begins its padding, or is a value character with such a text behind it. -/
theorem PaddedText.cases_cons {c : Byte} {t : Bytes} (h : PaddedText (c :: t)) :
    (∃ np < 2, c = padChar ∧ t = List.replicate np padChar) ∨ ((b64Val c).isSome = true ∧ PaddedText t) := by
  obtain ⟨v, np, he, hn, hv⟩ := h
  cases v with
  | nil =>
    cases np with
    | zero => cases he
    | succ n =>
      obtain ⟨hc, ht⟩ := List.cons.inj he
      exact .inl ⟨n, by omega, hc, ht⟩
  | cons d v =>
    obtain ⟨rfl, rfl⟩ := List.cons.inj he
    obtain ⟨hc, hv⟩ := List.forall_mem_cons.mp hv
    exact .inr ⟨hc, v, np, rfl, hn, hv⟩

theorem paddedText_cons_iff_of_ne {c : Byte} {t : Bytes} (h : c ≠ padChar) :
    PaddedText (c :: t) ↔ (b64Val c).isSome = true ∧ PaddedText t := by
  refine ⟨fun hp => ?_, fun ⟨hc, ht⟩ => ht.cons hc⟩
  obtain ⟨-, -, he, -⟩ | hp := hp.cases_cons
  · exact absurd he h
  · exact hp

/-- Padding does not begin where two or more characters are still to come. -/
theorem paddedText_cons_iff_of_length {c : Byte} {t : Bytes} (h : 2 ≤ t.length) :
    PaddedText (c :: t) ↔ (b64Val c).isSome = true ∧ PaddedText t := by
  refine ⟨fun hp => ?_, fun ⟨hc, ht⟩ => ht.cons hc⟩
  obtain ⟨np, hn, -, rfl⟩ | hp := hp.cases_cons
  · rw [List.length_replicate] at h
    omega
  · exact hp

/-- A last character is padding or a value character. -/
theorem paddedText_singleton_iff_of_ne {c : Byte} (h : c ≠ padChar) : PaddedText [c] ↔ (b64Val c).isSome = true := by
  rw [paddedText_cons_iff_of_ne h]
  exact and_iff_left paddedText_nil

/-- The last two characters are in form where those that are no padding are value characters. -/
theorem paddedText_last_two (g2 g3 : Byte) :
    PaddedText [g2, g3] ↔ (padChars true g2 g3 < 2 → (b64Val g2).isSome = true) ∧
      (padChars true g2 g3 < 1 → (b64Val g3).isSome = true) := by
  by_cases h3 : g3 = padChar
  · subst h3
    by_cases h2 : g2 = padChar
    · subst h2
      rw [padChars_two]
      exact iff_of_true (paddedText_replicate (np := 2) (le_refl 2)) ⟨by simp, by simp⟩
    · rw [padChars_one h2, paddedText_cons_iff_of_ne h2, and_iff_left paddedText_padChar]
      simp
  · have hp : PaddedText [g2, g3] ↔ (b64Val g2).isSome = true ∧ PaddedText [g3] := by
      refine ⟨fun hp => ?_, fun ⟨hc, ht⟩ => ht.cons hc⟩
      obtain ⟨np, hn, -, he⟩ | hp := hp.cases_cons
      · exact absurd (List.eq_of_mem_replicate (he ▸ List.mem_singleton_self g3)) h3
      · exact hp
    rw [hp, paddedText_singleton_iff_of_ne h3, padChars_of_ne h3]
    simp

/-! ## The texts that decode (R202) -/

theorem exists_bind_eq_ok_iff {ε α β : Type} {x : Except ε α} {f : α → Except ε β} :
    (∃ r, x >>= f = .ok r) ↔ ∃ a, x = .ok a ∧ ∃ r, f a = .ok r := by
  cases x <;> simp [bind, Except.bind]

theorem exists_needVal_iff {c : Byte} : (∃ v, needVal c = .ok v) ↔ (b64Val c).isSome = true := by
  unfold needVal
  cases b64Val c <;> simp

theorem exists_valueOrZero_iff {p : Prop} [Decidable p] {c : Byte} :
    (∃ v, valueOrZero p c = .ok v) ↔ (p → (b64Val c).isSome = true) := by
  unfold valueOrZero
  by_cases hp : p <;> simp [hp, exists_needVal_iff]

theorem exists_decodeGroup_iff {np : Nat} {g0 g1 g2 g3 : Byte} :
    (∃ d, decodeGroup np g0 g1 g2 g3 = .ok d) ↔ (b64Val g0).isSome = true ∧ (b64Val g1).isSome = true ∧
      (np < 2 → (b64Val g2).isSome = true) ∧ (np < 1 → (b64Val g3).isSome = true) := by
  simp only [decodeGroup_eq, exists_bind_eq_ok_iff, Except.ok.injEq, exists_eq', and_true, exists_and_right,
    exists_needVal_iff, exists_valueOrZero_iff]

/-- All groups but the last have value characters only, and the last may end in padding. -/
theorem exists_decodeGroups_iff (t : Bytes) (hl : t.length % 4 = 0) : (∃ d, decodeGroups t = .ok d) ↔ PaddedText t := by
  induction t using decodeGroups.induct with
  | case1 g0 g1 g2 g3 rest ih =>
    have hr : rest.length % 4 = 0 := by simp only [List.length_cons] at hl; omega
    have hg : (∃ d, decodeGroups (g0 :: g1 :: g2 :: g3 :: rest) = .ok d) ↔
        (∃ d, decodeGroup (padChars rest.isEmpty g2 g3) g0 g1 g2 g3 = .ok d) ∧ PaddedText rest := by
      simp only [decodeGroups_cons, exists_bind_eq_ok_iff, Except.ok.injEq, exists_eq', and_true, exists_and_right, ih hr]
    rw [hg, exists_decodeGroup_iff, paddedText_cons_iff_of_length (by simp), paddedText_cons_iff_of_length (by simp)]
    cases rest with
    | nil =>
      simp only [List.isEmpty_nil, paddedText_last_two, paddedText_nil, and_true]
    | cons c cs =>
      have h4 : 4 ≤ (c :: cs).length := by rw [List.length_cons] at hr ⊢; omega
      rw [paddedText_cons_iff_of_length (c := g2) (by rw [List.length_cons]; omega),
        paddedText_cons_iff_of_length (c := g3) (by omega), List.isEmpty_cons, padChars_of_not_last]
      simp [and_assoc]
  | case2 t ht =>
    match t with
    | [] => exact iff_of_true ⟨[], rfl⟩ paddedText_nil
    | [_] | [_, _] | [_, _, _] => simp at hl
    | g0 :: g1 :: g2 :: g3 :: rest => exact absurd rfl (ht g0 g1 g2 g3 rest)

theorem exists_b64Decode_iff (t : Bytes) : (∃ d, b64Decode t = .ok d) ↔ t.length % 4 = 0 ∧ PaddedText t := by
  unfold b64Decode
  by_cases hl : t.length % 4 = 0
  · simp [hl, exists_decodeGroups_iff t hl]
  · simp [hl]

/-! ## The error (R202) -/

/-- Whatever it raises is InvalidBase64. -/
def RaisesInvalidBase64 {α : Type} (x : Except ErrorKind α) : Prop := ∀ k, x = .error k → k = .invalidBase64

theorem raisesInvalidBase64_ok {α : Type} (a : α) : RaisesInvalidBase64 (.ok a) := fun _ h => by cases h

theorem raisesInvalidBase64_error {α : Type} : RaisesInvalidBase64 (.error .invalidBase64 : Except ErrorKind α) :=
  fun _ h => (Except.error.inj h).symm

theorem RaisesInvalidBase64.bind {α β : Type} {x : Except ErrorKind α} {f : α → Except ErrorKind β}
    (hx : RaisesInvalidBase64 x) (hf : ∀ a, RaisesInvalidBase64 (f a)) : RaisesInvalidBase64 (x >>= f) := by
  cases x with
  | ok a => exact hf a
  | error e => exact fun k h => hx k (congrArg Except.error (Except.error.inj h))

theorem needVal_raises (c : Byte) : RaisesInvalidBase64 (needVal c) := by
  unfold needVal
  cases b64Val c with
  | some v => exact raisesInvalidBase64_ok v
  | none => exact raisesInvalidBase64_error

theorem valueOrZero_raises (p : Prop) [Decidable p] (c : Byte) : RaisesInvalidBase64 (valueOrZero p c) := by
  unfold valueOrZero
  split
  · exact needVal_raises c
  · exact raisesInvalidBase64_ok 0

theorem decodeGroup_raises (np : Nat) (g0 g1 g2 g3 : Byte) : RaisesInvalidBase64 (decodeGroup np g0 g1 g2 g3) := by
  rw [decodeGroup_eq]
  exact (needVal_raises g0).bind fun _ => (needVal_raises g1).bind fun _ => (valueOrZero_raises _ g2).bind fun _ =>
    (valueOrZero_raises _ g3).bind fun _ => raisesInvalidBase64_ok _

theorem decodeGroups_raises (t : Bytes) : RaisesInvalidBase64 (decodeGroups t) := by
  induction t using decodeGroups.induct with
  | case1 g0 g1 g2 g3 rest ih =>
    exact (decodeGroup_raises _ _ _ _ _).bind fun _ => ih.bind fun _ => raisesInvalidBase64_ok _
  | case2 t ht =>
    rw [decodeGroups.eq_2 t ht]
    exact raisesInvalidBase64_ok []

theorem b64Decode_raises (t : Bytes) : RaisesInvalidBase64 (b64Decode t) := by
  unfold b64Decode
  split
  · exact raisesInvalidBase64_error
  · exact decodeGroups_raises t

/-! ## The commands (R203, R204) -/

theorem exec_b64e (s : State) : exec .b64e s = .next (resultState s (b64Encode s.inBuf)) := rfl

theorem exec_b64d_of_ok {s : State} {d : Bytes} (h : b64Decode s.inBuf = .ok d) :
    exec .b64d s = .next (resultState s d) := runPure_of_ok b64dResult s d h

/-- B64D fails with code 6, whatever is wrong with the text. -/
theorem exec_b64d_of_error {s : State} {k : ErrorKind} (h : b64Decode s.inBuf = .error k) :
    exec .b64d s = .next (failedState s 6) := by
  obtain rfl := b64Decode_raises s.inBuf k h
  exact runPure_of_error b64dResult s .invalidBase64 h

end Sys2Proof.Machine

namespace Sys2Proof.Proofs

open Sys2Proof Sys2Proof.Machine

/-- Settles O39: the parts of a group are the bit fields of its number, and each group decodes to its bytes. -/
theorem base64RoundTrip : Obligations.Base64RoundTrip := by
  refine ⟨⟨rfl, ?_, ?_, ?_⟩, fun x => ⟨b64Decode_b64Encode x, b64Encode_length x, mem_b64Encode x⟩⟩
  · rintro a v rfl
    have hv : (a.setWidth 24 <<< 16).toNat = group24 a 0 0 := by simpa using toNat_group a 0 0
    simp only [b64Encode, ← hv, sextet_eq_extractLsb']
  · rintro a b v rfl
    have hv : (a.setWidth 24 <<< 16 ||| b.setWidth 24 <<< 8).toNat = group24 a b 0 := by simpa using toNat_group a b 0
    simp only [b64Encode, ← hv, sextet_eq_extractLsb']
  · rintro a b c rest v rfl
    simp only [List.cons_append, List.nil_append, b64Encode, ← toNat_group, sextet_eq_extractLsb']

/-- Settles O40: group by group, padding only in the last. -/
theorem base64DecodeIsStrict : Obligations.Base64DecodeIsStrict := exists_b64Decode_iff

/-- Settles O37: both rules write their result only, and decoding raises one kind. -/
theorem base64Commands : Obligations.Base64Commands :=
  ⟨decode_encode .b64e, decode_encode .b64d, fun s =>
    ⟨exec_b64e s, fun _ => exec_b64d_of_ok, fun _ => exec_b64d_of_error⟩⟩

/-- Settles O38: the alphabet is the table of the 64 values. -/
theorem base64AlphabetIsABijection : Obligations.Base64AlphabetIsABijection :=
  ⟨by decide, b64Val_b64Chr, fun _ _ => b64Chr_of_b64Val, rfl⟩

end Sys2Proof.Proofs

/-! SUPPORT. Encryption by the Facade (R211): AESE's rule step by step, with which kind it fails, and what it answers where it
does not. -/

namespace Sys2Proof.Machine

/-! ## The result of a rule and the state after its command -/

theorem ruleOf_aeseOf (m : Mode) (p : Scheme) (v : Policy) (b : Bool) : ruleOf (.aeseOf m p v b) = aeseRule m p v b := by
  cases v <;> cases b <;> rfl

/-- A rule's result is OUTBUF, under ERRCODE 0 (R87 step 5). -/
theorem exec_next_of_ok {i : Instr} {s t : State} {res : Bytes} (h : exec i s = .next t)
    (hr : (ruleOf i s).2 = .ok res) : t.errCode = 0 ∧ t.outBuf = res := by
  obtain ⟨u, res', hu, rfl⟩ | ⟨u, k, hu, -⟩ := exec_next h
  · rw [hu] at hr
    exact ⟨rfl, Except.ok.inj hr⟩
  · rw [hu] at hr
    cases hr

/-- A raised kind is ERRCODE's code, and OUTBUF is empty (R243). -/
theorem exec_next_of_error {i : Instr} {s t : State} {k : ErrorKind} (h : exec i s = .next t)
    (hr : (ruleOf i s).2 = .error k) : t.errCode = errorCode k ∧ t.outBuf = [] := by
  obtain ⟨u, res, hu, -⟩ | ⟨u, k', hu, rfl⟩ := exec_next h
  · rw [hu] at hr
    cases hr
  · rw [hu] at hr
    cases hr
    simp

/-! ## The mode driver's checks, for both directions (R161 to R163) -/

theorem modeCrypt_of_illegal_iv {m : Mode} {iv : Bytes} (hi : ¬legalIv m iv) (data ks ks2 : Bytes) :
    modeEncrypt m data ks ks2 iv = .error .invalidIvLength ∧ modeDecrypt m data ks ks2 iv = .error .invalidIvLength := by
  simp [modeEncrypt, modeDecrypt, checkIv_of_illegal m iv hi, bind, Except.bind]

theorem modeCrypt_of_illegal_length {m : Mode} {data iv : Bytes} (hi : legalIv m iv) (hl : ¬legalLength m data.length)
    (ks ks2 : Bytes) :
    modeEncrypt m data ks ks2 iv = .error (if m = .xts then .invalidInputLength else .unalignedInput) ∧
    modeDecrypt m data ks ks2 iv = .error (if m = .xts then .invalidInputLength else .unalignedInput) := by
  simp [modeEncrypt, modeDecrypt, checkIv_of_legal m iv hi, checkLength_of_illegal m _ hl, bind, Except.bind]

theorem legalLength_of_aligned (m : Mode) {n : Nat} (h : n % 16 = 0) : legalLength m n := by
  cases m with
  | ecb | cbc => exact h
  | ofb | cfb | ctr => trivial
  | xts => unfold legalLength; omega

/-! ## AESE: padding where it applies (step 3 of R211) -/

/-- How many bytes step 3 of R211 draws. -/
def composedDraw (m : Mode) (p : Scheme) (len : Nat) : Nat := if padApplies m p then padDraw p len else 0

/-- What step 3 of R211 makes of the data, `fill` being the answer of its draw. -/
def composedPad (m : Mode) (p : Scheme) (data fill : Bytes) : Except ErrorKind Bytes :=
  if padApplies m p then padData p data fill else .ok data

theorem padWhereApplies_eq (m : Mode) (p : Scheme) (d : Bytes) (s : State) :
    padWhereApplies m p d s =
      (s.drawn (composedDraw m p d.length), composedPad m p d (s.rand (composedDraw m p d.length))) := by
  unfold padWhereApplies composedDraw composedPad
  cases padApplies m p <;> rfl

/-- Step 3 of R211 raises: a mode of whole blocks is given unaligned data and no scheme to pad it. -/
abbrev PadFails (m : Mode) (p : Scheme) (len : Nat) : Prop := (m = .ecb ∨ m = .cbc) ∧ p = .none ∧ len % 16 ≠ 0

/-- XTS without padding is given data shorter than a block. -/
abbrev TooShort (m : Mode) (p : Scheme) (data : Bytes) : Prop :=
  m = .xts ∧ p = .none ∧ data ≠ [] ∧ data.length < 16

theorem padApplies_none_iff (m : Mode) : padApplies m .none = true ↔ m = .ecb ∨ m = .cbc := by
  cases m <;> simp [padApplies]

theorem padApplies_of_ne_none {m : Mode} {p : Scheme} (hp : p ≠ .none) : padApplies m p = blockMode m := by
  cases p with
  | none => exact absurd rfl hp
  | pkcs7 | iso7816_4 | ansi923 | iso10126 | zero => cases m <;> rfl

section
variable {m : Mode} {p : Scheme} {x fill : Bytes}

theorem composedPad_of_padFails (h : PadFails m p x.length) : composedPad m p x fill = .error .unalignedInput := by
  obtain ⟨hm, rfl, hx⟩ := h
  exact (if_pos ((padApplies_none_iff m).mpr hm)).trans (padWithNone_of_unaligned hx)

theorem composedPad_of_not_padFails (h : ¬PadFails m p x.length) : ∃ y, composedPad m p x fill = .ok y := by
  unfold composedPad
  split
  · next ha =>
    by_cases hp : p = .none
    · subst hp
      have hx : x.length % 16 = 0 := by
        by_contra hx
        exact h ⟨(padApplies_none_iff m).mp ha, rfl, hx⟩
      exact ⟨x, padWithNone_of_aligned hx⟩
    · exact padData_ok p x fill hp
  · exact ⟨x, rfl⟩

/-- The driver takes what padding gives, but for the one case that padding leaves to it (R162). -/
theorem legalLength_composedPad_iff {y : Bytes} (hf : fill.length = composedDraw m p x.length)
    (hy : composedPad m p x fill = .ok y) : legalLength m y.length ↔ ¬TooShort m p x := by
  unfold composedPad at hy
  unfold composedDraw at hf
  by_cases ha : padApplies m p = true
  · rw [if_pos ha] at hy hf
    refine iff_of_true (legalLength_of_aligned m (padData_aligned hf hy)) ?_
    rintro ⟨rfl, rfl, -⟩
    cases ha
  · rw [if_neg ha] at hy
    cases hy
    cases m with
    | ecb | cbc => exact absurd rfl ha
    | ofb | cfb | ctr => exact iff_of_true trivial fun h => by cases h.1
    | xts =>
      have hp : p = .none := by
        by_contra hp
        exact ha (padApplies_of_ne_none hp)
      simp only [legalLength, TooShort, hp, ← List.length_eq_zero_iff, ne_eq, true_and]
      omega

/-- How long the padded data is does not depend on the draw. -/
theorem composedPad_length_congr {fill' y y' : Bytes} (hf : fill.length = composedDraw m p x.length)
    (hf' : fill'.length = composedDraw m p x.length) (hy : composedPad m p x fill = .ok y)
    (hy' : composedPad m p x fill' = .ok y') : y.length = y'.length := by
  unfold composedPad at hy hy'
  unfold composedDraw at hf hf'
  split at hy
  · next ha =>
    rw [if_pos ha] at hf hf' hy'
    obtain ⟨q, rfl, hq⟩ := padData_appends hf hy
    obtain ⟨q', rfl, hq'⟩ := padData_appends hf' hy'
    rw [List.length_append, List.length_append, hq, hq']
  · next ha =>
    rw [if_neg ha] at hy'
    cases hy
    cases hy'
    rfl

end

/-! ## AESE: the state that pads and drives (steps 1 and 2 of R211) -/

/-- The state of AESE with the keys expanded and the IV resolved. -/
def encryptReady (m : Mode) (v : Policy) (s : State) : State := resolveIvEnc m v s.expandKeys

/-- The policies are three, and ECB looks at none of them (R191, R192). -/
theorem ecb_or_explicit_of_not_flag {m : Mode} {v : Policy} (h0 : ¬(m ≠ .ecb ∧ v = .flag0))
    (h1 : ¬(m ≠ .ecb ∧ v = .flag1)) : m = .ecb ∨ v = .explicit := by
  cases v with
  | explicit => exact .inr rfl
  | flag0 => exact .inl (by simpa using h0)
  | flag1 => exact .inl (by simpa using h1)

/-- A mode needs an IV and has none of 16 bytes (R161). -/
abbrev NoIv (m : Mode) (v : Policy) (iv : Bytes) : Prop := m ≠ .ecb ∧ (v = .flag0 ∨ v = .explicit ∧ iv.length ≠ 16)

section
variable (m : Mode) (v : Policy) (s : State)

@[simp] theorem encryptReady_inBuf : (encryptReady m v s).inBuf = s.inBuf := (resolveIvEnc_frame m v s.expandKeys).inBuf

@[simp] theorem encryptReady_ks : (encryptReady m v s).ks = expandKey s.keyBuf :=
  (resolveIvEnc_schedule m v s.expandKeys).1

@[simp] theorem encryptReady_ks2 : (encryptReady m v s).ks2 = expandKey (xtsK2 s.params.xtsK2 s.keyBuf) :=
  (resolveIvEnc_schedule m v s.expandKeys).2.1

/-- The three cases of R191 in one: a draw is embedded, else IVBUF stays. FLAG0 in a mode that needs an IV is left out. -/
theorem encryptReady_eq {m : Mode} {v : Policy} {s : State} {draws : Bool} (h : ¬(m ≠ .ecb ∧ v = .flag0))
    (hdraws : draws = (decide (m ≠ .ecb) && decide (v = .flag1))) :
    encryptReady m v s = { State.expandKeys (if draws then s.drawn 16 else s) with
      ivBuf := if draws then s.rand 16 else s.ivBuf, embed := draws } := by
  subst hdraws
  by_cases hf : m ≠ .ecb ∧ v = .flag1
  · obtain ⟨hm, rfl⟩ := hf
    rw [encryptReady, resolveIvEnc_flag1 hm]
    simp only [hm, ne_eq, not_false_eq_true, decide_true, Bool.and_self, if_true]
    rfl
  · have hn : (decide (m ≠ .ecb) && decide (v = .flag1)) = false := by simpa using hf
    rw [encryptReady, resolveIvEnc_of_ecb_or_explicit (ecb_or_explicit_of_not_flag h hf), hn]
    rfl

theorem legalIv_encryptReady_iff : legalIv m (encryptReady m v s).ivBuf ↔ ¬NoIv m v s.ivBuf := by
  by_cases hm : m = .ecb
  · exact iff_of_true (fun h => absurd hm h) fun h => h.1 hm
  · cases v with
    | explicit =>
      rw [encryptReady, resolveIvEnc_of_ecb_or_explicit (.inr rfl)]
      simp [legalIv, NoIv, hm]
    | flag0 =>
      rw [encryptReady, resolveIvEnc_flag0 hm]
      simp [legalIv, NoIv, hm]
    | flag1 =>
      rw [encryptReady, resolveIvEnc_flag1 hm]
      simp [legalIv, NoIv, hm]

end

/-! ## AESE: its rule (R211) -/

/-- Steps 5 and 6 of R211. -/
def wrapped (b : Bool) (s : State) (c : Bytes) : Bytes := if b then b64Encode (prependIv s c) else prependIv s c

theorem driveAndWrap_of_ok {m : Mode} {s : State} {d c : Bytes} (b : Bool)
    (h : modeEncrypt m d s.ks s.ks2 s.ivBuf = .ok c) : driveAndWrap m b s d = .ok (wrapped b s c) := by
  rw [driveAndWrap, h]
  rfl

theorem driveAndWrap_of_error {m : Mode} {s : State} {d : Bytes} {k : ErrorKind} (b : Bool)
    (h : modeEncrypt m d s.ks s.ks2 s.ivBuf = .error k) : driveAndWrap m b s d = .error k := by
  rw [driveAndWrap, h]
  rfl

/-- The random source's answer to the draw of step 3 of R211. -/
def paddingFill (m : Mode) (p : Scheme) (v : Policy) (s : State) : Bytes :=
  (encryptReady m v s).rand (composedDraw m p s.inBuf.length)

/-- The state of AESE after its last draw. -/
def encryptDrawn (m : Mode) (p : Scheme) (v : Policy) (s : State) : State :=
  (encryptReady m v s).drawn (composedDraw m p s.inBuf.length)

section
variable {m : Mode} {p : Scheme} {v : Policy} {s : State} (b : Bool)

@[simp] theorem paddingFill_length : (paddingFill m p v s).length = composedDraw m p s.inBuf.length :=
  State.rand_length _ _

theorem aeseRule_of_key_length (hk : s.keyBuf.length ≠ 32) : aeseRule m p v b s = (s, .error .invalidKeyLength) :=
  if_pos hk

/-- Step 3 of R211 on the state of AESE that it finds. -/
theorem padWhereApplies_encryptReady (m : Mode) (p : Scheme) (v : Policy) (s : State) :
    padWhereApplies m p (encryptReady m v s).inBuf (encryptReady m v s) =
      (encryptDrawn m p v s, composedPad m p s.inBuf (paddingFill m p v s)) := by
  rw [padWhereApplies_eq, encryptReady_inBuf]
  rfl

theorem aeseRule_of_pad_error {k : ErrorKind} (hk : s.keyBuf.length = 32)
    (hd : composedPad m p s.inBuf (paddingFill m p v s) = .error k) :
    aeseRule m p v b s = (encryptDrawn m p v s, .error k) := by
  have hpad := padWhereApplies_encryptReady m p v s
  rw [hd] at hpad
  rw [aeseRule, if_neg (not_not.mpr hk)]
  unfold encryptReady at hpad
  simp only [hpad]

theorem aeseRule_of_pad_ok {d : Bytes} (hk : s.keyBuf.length = 32)
    (hd : composedPad m p s.inBuf (paddingFill m p v s) = .ok d) :
    aeseRule m p v b s =
      ((encryptDrawn m p v s).destroySchedule, driveAndWrap m b (encryptReady m v s) d) := by
  have hpad := padWhereApplies_encryptReady m p v s
  rw [hd] at hpad
  rw [aeseRule, if_neg (not_not.mpr hk)]
  unfold encryptReady at hpad
  simp only [hpad]
  rfl

/-! ## AESE: with which kind it fails (R211, R217, R242) -/

/-- The kind that AESE raises, its checks in order. -/
def aeseError (m : Mode) (p : Scheme) (v : Policy) (s : State) : Option ErrorKind :=
  if s.keyBuf.length ≠ 32 then some .invalidKeyLength
  else if PadFails m p s.inBuf.length then some .unalignedInput
  else if NoIv m v s.ivBuf then some .invalidIvLength
  else if TooShort m p s.inBuf then some .invalidInputLength
  else none

theorem aeseError_eq_none_iff :
    aeseError m p v s = none ↔
      s.keyBuf.length = 32 ∧ ¬PadFails m p s.inBuf.length ∧ ¬NoIv m v s.ivBuf ∧ ¬TooShort m p s.inBuf := by
  unfold aeseError
  split_ifs with hk hp hi hl
  · simp [hk]
  · simp [hp]
  · simp [hi]
  · simp [hl]
  · exact iff_of_true rfl ⟨not_not.mp hk, hp, hi, hl⟩

/-- The checks fail where the steps of R211 raise: the key's, then padding's, then the driver's two. -/
theorem aeseRule_of_error {k : ErrorKind} (h : aeseError m p v s = some k) : (aeseRule m p v b s).2 = .error k := by
  unfold aeseError at h
  split_ifs at h with hk hp hi hl <;> cases h
  · rw [aeseRule_of_key_length b hk]
  · rw [aeseRule_of_pad_error b (not_not.mp hk) (composedPad_of_padFails hp)]
  · obtain ⟨d, hd⟩ := composedPad_of_not_padFails (fill := paddingFill m p v s) hp
    have hi' := mt (legalIv_encryptReady_iff m v s).mp (not_not.mpr hi)
    rw [aeseRule_of_pad_ok b (not_not.mp hk) hd]
    exact driveAndWrap_of_error b (modeCrypt_of_illegal_iv hi' _ _ _).1
  · obtain ⟨d, hd⟩ := composedPad_of_not_padFails (fill := paddingFill m p v s) hp
    have hi' := (legalIv_encryptReady_iff m v s).mpr hi
    have hl' := mt (legalLength_composedPad_iff paddingFill_length hd).mp (not_not.mpr hl)
    have hx := (modeCrypt_of_illegal_length hi' hl' (encryptReady m v s).ks (encryptReady m v s).ks2).1
    rw [if_pos hl.1] at hx
    rw [aeseRule_of_pad_ok b (not_not.mp hk) hd]
    exact driveAndWrap_of_error b hx

/-- Where AESE raises nothing, its rule drives the padded data, under an IV and of a length that the mode takes. -/
theorem aeseRule_of_no_error (h : aeseError m p v s = none) :
    ∃ d, composedPad m p s.inBuf (paddingFill m p v s) = .ok d ∧ legalIv m (encryptReady m v s).ivBuf ∧
      legalLength m d.length ∧
      aeseRule m p v b s = ((encryptDrawn m p v s).destroySchedule,
        .ok (wrapped b (encryptReady m v s) (driveEncrypt m d (expandKey s.keyBuf)
          (expandKey (xtsK2 s.params.xtsK2 s.keyBuf)) (encryptReady m v s).ivBuf))) := by
  obtain ⟨hk, hp, hi, hl⟩ := aeseError_eq_none_iff.mp h
  obtain ⟨d, hd⟩ := composedPad_of_not_padFails (fill := paddingFill m p v s) hp
  have hi' := (legalIv_encryptReady_iff m v s).mpr hi
  have hl' := (legalLength_composedPad_iff paddingFill_length hd).mpr hl
  refine ⟨d, hd, hi', hl', ?_⟩
  rw [aeseRule_of_pad_ok b hk hd, driveAndWrap_of_ok b (modeEncrypt_of_legal hi' hl' _ _), encryptReady_ks,
    encryptReady_ks2]

variable {b} {t : State} (h : exec (.aeseOf m p v b) s = .next t)
include h

theorem exec_aeseOf_of_error {k : ErrorKind} (he : aeseError m p v s = some k) :
    t.errCode = errorCode k ∧ t.outBuf = [] :=
  exec_next_of_error h (ruleOf_aeseOf m p v b ▸ aeseRule_of_error b he)

theorem exec_aeseOf_of_no_error (he : aeseError m p v s = none) :
    ∃ d, composedPad m p s.inBuf (paddingFill m p v s) = .ok d ∧ legalIv m (encryptReady m v s).ivBuf ∧
      legalLength m d.length ∧ t.errCode = 0 ∧
      t.outBuf = wrapped b (encryptReady m v s) (driveEncrypt m d (expandKey s.keyBuf)
        (expandKey (xtsK2 s.params.xtsK2 s.keyBuf)) (encryptReady m v s).ivBuf) := by
  obtain ⟨d, hd, hi, hl, hr⟩ := aeseRule_of_no_error b he
  exact ⟨d, hd, hi, hl, exec_next_of_ok h (ruleOf_aeseOf m p v b ▸ congrArg Prod.snd hr)⟩

/-- A successful AESE passed every check. -/
theorem aeseError_eq_none_of_errCode (h0 : t.errCode = 0) : aeseError m p v s = none := by
  cases he : aeseError m p v s with
  | none => rfl
  | some k =>
    obtain ⟨hk, -⟩ := exec_aeseOf_of_error h he
    exact absurd (hk.symm.trans h0) (errorCode_range k).1

end

end Sys2Proof.Machine

namespace Sys2Proof.Proofs

open Sys2Proof Sys2Proof.Machine

/-- Settles O41: `aeseError` is the order of the checks. -/
theorem aeseErrorOrder : Obligations.AeseErrorOrder := by
  intro s t m p v b h
  have hcode : t.errCode = (aeseError m p v s).elim 0 errorCode := by
    cases he : aeseError m p v s with
    | some k => exact (exec_aeseOf_of_error h he).1
    | none =>
      obtain ⟨d, -, -, -, h0, -⟩ := exec_aeseOf_of_no_error h he
      exact h0
  rw [hcode, aeseError]
  split_ifs <;> rfl

/-- Settles O42: the conditions are that no check fails; the IV is resolved by the three cases of R191. -/
theorem aeseEncrypts : Obligations.AeseEncrypts := by
  intro s m p v b hk hiv hal hxts draws s1 iv fill hdraws hs1 hiv1 hfill
  have he : aeseError m p v s = none := by
    refine aeseError_eq_none_iff.mpr ⟨hk, fun h => h.2.2 (hal h.1 h.2.1), fun h => ?_, fun h => ?_⟩
    · obtain ⟨hm, rfl | ⟨rfl, hn⟩⟩ := h
      · simpa using hiv hm
      · exact hn (by simpa using hiv hm)
    · obtain h0 | h16 := hxts h.1 h.2.1
      · exact h.2.2.1 h0
      · exact absurd h.2.2.2 (by omega)
  obtain ⟨d, hd, -, -, hr⟩ := aeseRule_of_no_error b he
  have hx := (exec_aeseOf m p v b s).trans (runCommand_of_ok true _ _ _ _ hr)
  have hready : encryptReady m v s = { s1.expandKeys with ivBuf := iv, embed := draws } := by
    rw [hs1, hiv1]
    exact encryptReady_eq (fun h => by simpa [h.2] using hiv h.1) hdraws
  have hfill' : fill = paddingFill m p v s := by
    rw [hfill]
    exact State.rand_congr _ _ (by rw [hready]; rfl) (by rw [hready]; rfl) _
  refine ⟨d, hfill' ▸ hd, ?_⟩
  rw [hx, hfill', paddingFill_length, encryptDrawn, wrapped, prependIv, hready]
  rfl

end Sys2Proof.Proofs

/-! SUPPORT. Decryption by the Facade (R212): its rule step by step, and with which code it ends. -/

namespace Sys2Proof.Machine

/-! ## AESD: the IV and the ciphertext (step 3 of R212) -/

/-- `iv` and `c` are the IV and the ciphertext that step 3 of R212 finds in the input `d`, IVBUF being `ivBuf`. -/
def Extracts (m : Mode) (v : Policy) (ivBuf d iv c : Bytes) : Prop :=
  if m ≠ .ecb ∧ v = .flag1 then 16 ≤ d.length ∧ iv = d.take 16 ∧ c = d.drop 16
  else c = d ∧ iv = if m ≠ .ecb ∧ v = .flag0 then [] else ivBuf

/-- The state of AESD with the keys expanded and the IV resolved. -/
def decryptReady (s : State) (iv : Bytes) : State := { s.expandKeys with ivBuf := iv, embed := false }

section
variable {m : Mode} {v : Policy} {s : State} {d : Bytes}

theorem resolveIvDec_of_extracts {iv c : Bytes} (h : Extracts m v s.ivBuf d iv c) :
    resolveIvDec m v d s.expandKeys = (decryptReady s iv, .ok c) := by
  unfold Extracts at h
  split at h
  · next hf =>
    obtain ⟨hl, rfl, rfl⟩ := h
    obtain ⟨hm, rfl⟩ := hf
    exact resolveIvDec_flag1_of_not_lt hm (by omega) _
  · next hf =>
    obtain ⟨rfl, rfl⟩ := h
    split
    · next h0 =>
      obtain ⟨hm, rfl⟩ := h0
      exact resolveIvDec_flag0 hm c _
    · next h0 => exact resolveIvDec_of_ecb_or_explicit (ecb_or_explicit_of_not_flag h0 hf) c _

/-- Below 16 bytes FLAG1 finds no IV; everything else has one IV and ciphertext (R192). -/
theorem extracts_or_missing (m : Mode) (v : Policy) (ivBuf d : Bytes) :
    (m ≠ .ecb ∧ v = .flag1 ∧ d.length < 16) ∨ ∃ iv c, Extracts m v ivBuf d iv c := by
  unfold Extracts
  by_cases hf : m ≠ .ecb ∧ v = .flag1
  · by_cases hd : d.length < 16
    · exact .inl ⟨hf.1, hf.2, hd⟩
    · exact .inr ⟨_, _, by rw [if_pos hf]; exact ⟨by omega, rfl, rfl⟩⟩
  · exact .inr ⟨_, _, by rw [if_neg hf]; exact ⟨rfl, rfl⟩⟩

end

/-! ## AESD: its rule (R212) -/

/-- Step 5 of R212: unpad where padding applies. -/
def composedUnpad (m : Mode) (p : Scheme) (x : Bytes) : Except ErrorKind Bytes :=
  if padApplies m p then unpadData p x else .ok x

theorem driveAndUnpad_of_ok {m : Mode} {s : State} {c x : Bytes} (p : Scheme)
    (h : modeDecrypt m c s.ks s.ks2 s.ivBuf = .ok x) : driveAndUnpad m p s c = composedUnpad m p x := by
  rw [driveAndUnpad, h]
  rfl

theorem driveAndUnpad_of_error {m : Mode} {s : State} {c : Bytes} {k : ErrorKind} (p : Scheme)
    (h : modeDecrypt m c s.ks s.ks2 s.ivBuf = .error k) : driveAndUnpad m p s c = .error k := by
  rw [driveAndUnpad, h]
  rfl

section
variable {m : Mode} {p : Scheme} {v : Policy} {b : Bool} {s : State}

theorem aesdRule_of_key_length (hk : s.keyBuf.length ≠ 32) : aesdRule m p v b s = (s, .error .invalidKeyLength) :=
  if_pos hk

variable (hk : s.keyBuf.length = 32)
include hk

theorem aesdRule_of_text {k : ErrorKind} (hd : unwrapInput b s.inBuf = .error k) :
    aesdRule m p v b s = (s.expandKeys, .error k) := by
  rw [aesdRule, if_neg (not_not.mpr hk), hd]

theorem aesdRule_of_missing {d : Bytes} (hd : unwrapInput b s.inBuf = .ok d) (hm : m ≠ .ecb) (hl : d.length < 16) :
    aesdRule m p .flag1 b s = (s.expandKeys, .error .missingIv) := by
  rw [aesdRule, if_neg (not_not.mpr hk), hd]
  simp only [resolveIvDec_flag1_of_lt hm hl]

theorem aesdRule_of_extracts {d iv c : Bytes} (hd : unwrapInput b s.inBuf = .ok d)
    (he : Extracts m v s.ivBuf d iv c) :
    aesdRule m p v b s = ((decryptReady s iv).destroySchedule, driveAndUnpad m p (decryptReady s iv) c) := by
  rw [aesdRule, if_neg (not_not.mpr hk), hd]
  simp only [resolveIvDec_of_extracts he]

/-- Where the driver's checks pass, AESD ends as unpadding does. -/
theorem aesdRule_of_legal {d iv c : Bytes} (hd : unwrapInput b s.inBuf = .ok d)
    (he : Extracts m v s.ivBuf d iv c) (hi : legalIv m iv) (hl : legalLength m c.length) :
    aesdRule m p v b s = ((decryptReady s iv).destroySchedule, composedUnpad m p (driveDecrypt m c (expandKey s.keyBuf)
      (expandKey (xtsK2 s.params.xtsK2 s.keyBuf)) iv)) := by
  rw [aesdRule_of_extracts hk hd he, driveAndUnpad_of_ok (s := decryptReady s iv) p (modeDecrypt_of_legal hi hl _ _)]
  rfl

end

end Sys2Proof.Machine

namespace Sys2Proof.Proofs

open Sys2Proof Sys2Proof.Machine

/-- Settles O44: no check fails. -/
theorem aesdDecrypts : Obligations.AesdDecrypts := by
  rintro s m p v b d iv c x out hk hd he hi hl rfl ho
  have hr := aesdRule_of_legal (p := p) hk hd he hi hl
  rw [show composedUnpad m p _ = .ok out from ho] at hr
  exact (exec_aesdOf m p v b s).trans (runCommand_of_ok true _ _ _ _ hr)

/-- Settles O43: the first step of the rule that raises gives the code. -/
theorem aesdErrorOrder : Obligations.AesdErrorOrder := by
  intro s t m p v b h
  have hraises {k : ErrorKind} (hr : (aesdRule m p v b s).2 = .error k) : t.errCode = errorCode k :=
    (exec_next_of_error h (ruleOf_aesdOf m p v b ▸ hr)).1
  have hanswers {res : Bytes} (hr : (aesdRule m p v b s).2 = .ok res) : t.errCode = 0 :=
    (exec_next_of_ok h (ruleOf_aesdOf m p v b ▸ hr)).1
  refine ⟨fun hk => hraises (congrArg Prod.snd (aesdRule_of_key_length hk)), fun hk => ⟨?_, fun d hd => ⟨?_, ?_⟩⟩⟩
  · rintro rfl hno
    cases hd : b64Decode s.inBuf with
    | ok d => exact absurd hd (hno d)
    | error k =>
      obtain rfl := b64Decode_raises s.inBuf k hd
      exact hraises (congrArg Prod.snd (aesdRule_of_text (b := true) hk hd))
  · rintro hm rfl hl
    exact hraises (congrArg Prod.snd (aesdRule_of_missing hk hd hm hl))
  · intro iv c he
    have hr := congrArg Prod.snd (aesdRule_of_extracts (p := p) hk hd he)
    have hdrive {k : ErrorKind} (hx : modeDecrypt m c (decryptReady s iv).ks (decryptReady s iv).ks2 iv = .error k) :
        t.errCode = errorCode k := hraises (hr.trans (driveAndUnpad_of_error p hx))
    refine ⟨fun hm hi => hdrive (modeCrypt_of_illegal_iv (fun hl => hi (hl hm)) _ _ _).2, fun hi => ⟨?_, ?_, ?_⟩⟩
    · intro hm hl
      have hl' : ¬legalLength m c.length := by obtain rfl | rfl := hm <;> exact hl
      have hx := hdrive (modeCrypt_of_illegal_length hi hl' _ _).2
      obtain rfl | rfl := hm <;> exact hx
    · rintro rfl h0 hl
      have hl' : ¬legalLength .xts c.length := by
        rintro (h | h)
        · exact h0 (List.length_eq_zero_iff.mp h)
        · omega
      exact hdrive (modeCrypt_of_illegal_length hi hl' _ _).2
    · rintro hl x rfl
      have hu := congrArg Prod.snd (aesdRule_of_legal (p := p) hk hd he hi hl)
      split
      · next ha =>
        rw [composedUnpad, if_pos ha] at hu
        split
        · next y hy => exact hanswers (hu.trans hy)
        · next k hy => exact hraises (hu.trans hy)
      · next ha =>
        rw [composedUnpad, if_neg ha] at hu
        exact hanswers hu

end Sys2Proof.Proofs

/-! SUPPORT. Decryption by the Facade undoes encryption (R217): each step of AESD undoes one of AESE's. -/

namespace Sys2Proof.Machine

theorem unwrapInput_wrapped (b : Bool) (s : State) (c : Bytes) : unwrapInput b (wrapped b s c) = .ok (prependIv s c) := by
  cases b with
  | false => rfl
  | true => exact b64Decode_b64Encode _

/-- AESD finds the ciphertext, and in a mode that needs an IV the IV, that AESE used. -/
theorem exists_extracts_prependIv {m : Mode} {v : Policy} {s : State} {iv' : Bytes}
    (hi : legalIv m (encryptReady m v s).ivBuf) (hv : v = .explicit → iv' = s.ivBuf) (c : Bytes) :
    ∃ iv, Extracts m v iv' (prependIv (encryptReady m v s) c) iv c ∧ (m ≠ .ecb → iv = (encryptReady m v s).ivBuf) := by
  have hno := (legalIv_encryptReady_iff m v s).mp hi
  rw [encryptReady_eq (fun h => hno ⟨h.1, .inl h.2⟩) rfl]
  unfold Extracts prependIv
  by_cases hf : m ≠ .ecb ∧ v = .flag1
  · refine ⟨s.rand 16, ?_⟩
    simp [hf, List.take_left', List.drop_left']
  · have hn : (decide (m ≠ .ecb) && decide (v = .flag1)) = false := by simpa using hf
    refine ⟨_, by rw [if_neg hf, hn]; exact ⟨rfl, rfl⟩, fun hm => ?_⟩
    rw [hn]
    cases v with
    | explicit => simpa using hv rfl
    | flag0 => exact absurd ⟨hm, .inl rfl⟩ hno
    | flag1 => exact absurd ⟨hm, rfl⟩ hf

section
variable {m : Mode} {key iv d : Bytes} (x : Config.XtsK2) (hk : key.length = 32) (hi : legalIv m iv)
  (hl : legalLength m d.length)
include hk hi hl

/-- ECB looks at no IV, so its IV may be taken to be a block. -/
theorem driveEncrypt_expandKey_length :
    (driveEncrypt m d (expandKey key) (expandKey (xtsK2 x key)) iv).length = d.length := by
  have hks := expandKey_length hk
  have hks2 := expandKey_length (xtsK2_length x key hk)
  by_cases hm : m = .ecb
  · subst hm
    exact driveEncrypt_length_of_legal (iv := zeros 16) hks hks2 rfl hl
  · exact driveEncrypt_length_of_legal hks hks2 (hi hm) hl

theorem driveDecrypt_driveEncrypt_expandKey {iv' : Bytes} (hiv : m ≠ .ecb → iv' = iv) :
    driveDecrypt m (driveEncrypt m d (expandKey key) (expandKey (xtsK2 x key)) iv) (expandKey key)
      (expandKey (xtsK2 x key)) iv' = d := by
  have hks := expandKey_length hk
  have hks2 := expandKey_length (xtsK2_length x key hk)
  by_cases hm : m = .ecb
  · subst hm
    exact driveDecrypt_driveEncrypt_of_legal (iv := zeros 16) hks hks2 rfl hl
  · rw [hiv hm]
    exact driveDecrypt_driveEncrypt_of_legal hks hks2 (hi hm) hl

end

theorem eq_of_padWithNone {x y : Bytes} (h : padWithNone x = .ok y) : x = y := by
  unfold padWithNone at h
  split at h <;> cases h
  rfl

/-- Unpadding gives the data back, but for the trailing zeros that ZERO cannot tell from its padding (R157). -/
theorem composedUnpad_composedPad {m : Mode} {p : Scheme} {x fill d : Bytes}
    (hf : fill.length = composedDraw m p x.length) (hd : composedPad m p x fill = .ok d) :
    composedUnpad m p d = .ok (if p = .zero ∧ padApplies m p = true then unpadZero x else x) := by
  unfold composedPad at hd
  unfold composedDraw at hf
  unfold composedUnpad
  by_cases ha : padApplies m p = true
  · rw [if_pos ha] at hd hf ⊢
    simp only [ha, and_true]
    have hal := padData_aligned hf hd
    by_cases hp : alwaysAppends p = true
    · obtain ⟨y, hy, hpad⟩ := padData_paddedAs hp hf
      obtain rfl : y = d := Except.ok.inj (hy.symm.trans hd)
      rw [if_neg (by rintro rfl; cases hp)]
      exact unpadData_of_paddedAs hal hpad
    · cases p with
      | pkcs7 | iso7816_4 | ansi923 | iso10126 => exact absurd rfl hp
      | none =>
        obtain rfl := eq_of_padWithNone hd
        exact unpadData_of_paddedAs hal rfl
      | zero =>
        cases hd
        rw [unpadData_of_aligned _ hal, if_pos rfl, padWithZero_eq]
        exact congrArg Except.ok (unpadZero_append_zeros x _)
  · rw [if_neg ha] at hd ⊢
    cases hd
    rw [if_neg fun h => ha h.2]

end Sys2Proof.Machine

namespace Sys2Proof.Proofs

open Sys2Proof Sys2Proof.Machine

/-- Settles O45: each step of AESD undoes one of AESE's. -/
theorem facadeRoundTrip : Obligations.FacadeRoundTrip := by
  intro s t s' m p v b h h0 hkey hpar hin hiv
  have he := aeseError_eq_none_of_errCode h h0
  obtain ⟨hk, -⟩ := aeseError_eq_none_iff.mp he
  obtain ⟨d, hd, hi, hl, -, hout⟩ := exec_aeseOf_of_no_error h he
  obtain ⟨iv, hx, hiv'⟩ := exists_extracts_prependIv hi hiv (driveEncrypt m d (expandKey s.keyBuf)
    (expandKey (xtsK2 s.params.xtsK2 s.keyBuf)) (encryptReady m v s).ivBuf)
  have hdec := aesdRule_of_legal (p := p) (s := s') (hkey ▸ hk)
    (by rw [hin, hout]; exact unwrapInput_wrapped b _ _) hx (fun hm => hiv' hm ▸ hi hm)
    (by rw [driveEncrypt_expandKey_length _ hk hi hl]; exact hl)
  rw [hkey, hpar, driveDecrypt_driveEncrypt_expandKey _ hk hi hl hiv',
    composedUnpad_composedPad paddingFill_length hd] at hdec
  refine ⟨_, (exec_aesdOf m p v b s').trans (runCommand_of_ok true _ _ _ _ hdec), rfl, fun hz => if_neg hz,
    fun hp ha => ?_⟩
  rw [State.commit_outBuf, if_pos ⟨hp, ha⟩]
  obtain ⟨hlast, z, hz⟩ := unpadZero_splits s.inBuf
  exact ⟨z, hz, hlast⟩

end Sys2Proof.Proofs

/-! SUPPORT. The Facade as a whole: the primitive commands compose to AESE (R211), no schedule survives a facade command
(R214), and a result depends on the command's inputs only, its success not even on the draws (R216, R270). -/

namespace Sys2Proof.Machine

/-! ## The primitive commands in a row (R211) -/

/-- KEXP that succeeds has expanded the keys (R120). -/
theorem exec_kexp_of_errCode {s t : State} (h : exec .kexp s = .next t) (h0 : t.errCode = 0) :
    s.keyBuf.length = 32 ∧ t = resultState s.expandKeys [] := by
  have hr : exec .kexp s = runCommand false kexpRule s := rfl
  by_cases hk : s.keyBuf.length = 32
  · rw [hr, runCommand_of_ok false kexpRule s s.expandKeys [] (by simp [kexpRule, hk])] at h
    exact ⟨hk, (Host.Outcome.next.inj h).symm⟩
  · rw [hr, runCommand_of_error false kexpRule s s .invalidKeyLength (by simp [kexpRule, hk])] at h
    obtain rfl := Host.Outcome.next.inj h
    simp [errorCode] at h0

/-- What a result writes does not touch the resolution of the IV (R191). -/
theorem resolveIvEnc_resultState (m : Mode) (v : Policy) (s : State) (res : Bytes) :
    resolveIvEnc m v (resultState s res) = resultState (resolveIvEnc m v s) res := by
  unfold resolveIvEnc
  cases needsIv m with
  | false => rfl
  | true => cases v <;> rfl

/-- PAD where padding applies, else the data itself, is step 3 of R211. -/
theorem pad_stage_of_errCode {m : Mode} {p : Scheme} {s t : State}
    (h : (if padApplies m p then exec (.padOf p) s else .next (resultState s s.inBuf)) = .next t) (h0 : t.errCode = 0) :
    ∃ y, composedPad m p s.inBuf (s.rand (composedDraw m p s.inBuf.length)) = .ok y ∧
      t = resultState (s.drawn (composedDraw m p s.inBuf.length)) y := by
  unfold composedPad composedDraw
  split at h
  · next ha =>
    rw [if_pos ha, if_pos ha]
    cases hy : padData p s.inBuf (s.rand (padDraw p s.inBuf.length)) with
    | ok y =>
      rw [exec_padOf_of_ok hy] at h
      exact ⟨y, rfl, (Host.Outcome.next.inj h).symm⟩
    | error k =>
      rw [exec_padOf_of_error hy] at h
      obtain rfl := Host.Outcome.next.inj h
      exact absurd h0 (errorCode_range k).1
  · next ha =>
    rw [if_neg ha, if_neg ha]
    exact ⟨_, rfl, (Host.Outcome.next.inj h).symm⟩

/-- MENC that succeeds has driven its input (R177). -/
theorem exec_mencOf_of_errCode {m : Mode} {s t : State} (h : exec (.mencOf m) s = .next t) (h0 : t.errCode = 0) :
    ∃ c, modeEncrypt m s.inBuf s.ks s.ks2 s.ivBuf = .ok c ∧ t = resultState s c := by
  rw [exec_mencOf] at h
  cases hc : mencResult m s with
  | ok c =>
    rw [runPure_of_ok _ _ _ hc] at h
    refine ⟨c, ?_, (Host.Outcome.next.inj h).symm⟩
    unfold mencResult at hc
    split at hc
    · cases hc
    · exact hc
  | error k =>
    rw [runPure_of_error _ _ _ hc] at h
    obtain rfl := Host.Outcome.next.inj h
    exact absurd h0 (errorCode_range k).1

/-- B64E where the operand says so writes its result only (R203). -/
theorem b64_stage {b : Bool} {s t : State} (h : (if b then exec .b64e (fed s) else .next s) = .next t) :
    t.outBuf = (if b then b64Encode s.outBuf else s.outBuf) ∧ t.ivBuf = s.ivBuf ∧ t.embed = s.embed ∧
      t.draws = s.draws ∧ t.entropy = s.entropy := by
  cases b with
  | false =>
    obtain rfl := Host.Outcome.next.inj h
    exact ⟨rfl, rfl, rfl, rfl, rfl⟩
  | true =>
    rw [if_pos rfl, exec_b64e] at h
    obtain rfl := Host.Outcome.next.inj h
    exact ⟨rfl, rfl, rfl, rfl, rfl⟩

/-- AESE's rule from the state that pads and drives, each of the two steps succeeding. -/
theorem aeseRule_of_ready {m : Mode} {p : Scheme} {v : Policy} {s : State} {y c : Bytes} (b : Bool)
    (hk : s.keyBuf.length = 32)
    (hy : composedPad m p (encryptReady m v s).inBuf
      ((encryptReady m v s).rand (composedDraw m p (encryptReady m v s).inBuf.length)) = .ok y)
    (hc : modeEncrypt m y (encryptReady m v s).ks (encryptReady m v s).ks2 (encryptReady m v s).ivBuf = .ok c) :
    aeseRule m p v b s =
      (((encryptReady m v s).drawn (composedDraw m p (encryptReady m v s).inBuf.length)).destroySchedule,
        .ok (wrapped b (encryptReady m v s) c)) := by
  rw [encryptReady_inBuf] at hy ⊢
  rw [aeseRule_of_pad_ok b hk hy, driveAndWrap_of_ok b hc, encryptDrawn]

/-! ## No schedule survives (R214) -/

/-- A facade rule that answers has destroyed the schedule. -/
theorem ruleOf_facade_destroys {i : Instr} {s u : State} {res : Bytes} (hi : isFacade i = true)
    (h : ruleOf i s = (u, .ok res)) : ∃ u' : State, u = u'.destroySchedule := by
  obtain ⟨m, p, v, b, rfl | rfl⟩ := isFacade_cases i hi
  · rw [ruleOf_aeseOf] at h
    cases he : aeseError m p v s with
    | some k => cases (congrArg Prod.snd h).symm.trans (aeseRule_of_error b he)
    | none =>
      obtain ⟨d, -, -, -, hr⟩ := aeseRule_of_no_error b he
      exact ⟨_, congrArg Prod.fst (h.symm.trans hr)⟩
  · rw [ruleOf_aesdOf] at h
    by_cases hk : s.keyBuf.length = 32
    · cases hd : unwrapInput b s.inBuf with
      | error k => cases h.symm.trans (aesdRule_of_text hk hd)
      | ok d =>
        obtain ⟨hm, rfl, hl⟩ | ⟨iv, c, he⟩ := extracts_or_missing m v s.ivBuf d
        · cases h.symm.trans (aesdRule_of_missing hk hd hm hl)
        · exact ⟨_, congrArg Prod.fst (h.symm.trans (aesdRule_of_extracts hk hd he))⟩
    · cases h.symm.trans (aesdRule_of_key_length hk)

/-! ## The inputs of a facade command (R216) -/

/-- AESD's result is a function of KEYBUF, IVBUF, INBUF and the parameters: of two states that agree on them, each takes the
same step. -/
theorem aesdRule_result_congr (m : Mode) (p : Scheme) (v : Policy) (b : Bool) {s s' : State} (hkey : s.keyBuf = s'.keyBuf)
    (hiv : s.ivBuf = s'.ivBuf) (hin : s.inBuf = s'.inBuf) (hpar : s.params = s'.params) :
    (aesdRule m p v b s).2 = (aesdRule m p v b s').2 := by
  by_cases hk : s.keyBuf.length = 32
  · have hk' : s'.keyBuf.length = 32 := hkey ▸ hk
    cases hd : unwrapInput b s.inBuf with
    | error k => rw [aesdRule_of_text hk hd, aesdRule_of_text hk' (hin ▸ hd)]
    | ok d =>
      have hd' : unwrapInput b s'.inBuf = .ok d := hin ▸ hd
      obtain ⟨hm, rfl, hl⟩ | ⟨iv, c, he⟩ := extracts_or_missing m v s.ivBuf d
      · rw [aesdRule_of_missing hk hd hm hl, aesdRule_of_missing hk' hd' hm hl]
      · rw [aesdRule_of_extracts hk hd he, aesdRule_of_extracts hk' hd' (hiv ▸ he)]
        simp only [driveAndUnpad, decryptReady, State.expandKeys_ks, State.expandKeys_ks2, hkey, hpar]
  · rw [aesdRule_of_key_length hk, aesdRule_of_key_length (hkey ▸ hk)]

/-- What AESE's rule has drawn where it stops. -/
theorem aeseRule_draws (m : Mode) (p : Scheme) (v : Policy) (b : Bool) (s : State) :
    (aeseRule m p v b s).1.draws = if s.keyBuf.length = 32 then (encryptDrawn m p v s).draws else s.draws := by
  split
  · next hk =>
    cases hd : composedPad m p s.inBuf (paddingFill m p v s) with
    | ok d => rw [aeseRule_of_pad_ok b hk hd, State.destroySchedule_draws]
    | error k => rw [aeseRule_of_pad_error b hk hd]
  · next hk => rw [aeseRule_of_key_length b hk]

section
variable {s s' : State} (m : Mode) (v : Policy) (hiv : s.ivBuf = s'.ivBuf) (hent : s.entropy = s'.entropy)
  (hdraws : s.draws = s'.draws)
include hiv hent hdraws

theorem encryptReady_congr :
    (encryptReady m v s).ivBuf = (encryptReady m v s').ivBuf ∧ (encryptReady m v s).embed = (encryptReady m v s').embed ∧
    (encryptReady m v s).entropy = (encryptReady m v s').entropy ∧
    (encryptReady m v s).draws = (encryptReady m v s').draws := by
  have hr : s.expandKeys.rand 16 = s'.expandKeys.rand 16 := State.rand_congr _ _ hent hdraws 16
  unfold encryptReady resolveIvEnc
  cases needsIv m <;> cases v <;> simp [hiv, hent, hdraws, hr]

/-- AESE's result and draws are a function of KEYBUF, IVBUF, INBUF, the parameters and the random source. -/
theorem aeseRule_congr (p : Scheme) (b : Bool) (hkey : s.keyBuf = s'.keyBuf) (hin : s.inBuf = s'.inBuf)
    (hpar : s.params = s'.params) :
    (aeseRule m p v b s).2 = (aeseRule m p v b s').2 ∧ (aeseRule m p v b s).1.draws = (aeseRule m p v b s').1.draws := by
  obtain ⟨hi, he, hn, hd⟩ := encryptReady_congr m v hiv hent hdraws
  refine ⟨?_, by simp only [aeseRule_draws, encryptDrawn, State.drawn_draws, hd, hkey, hin, hdraws]⟩
  have herr : aeseError m p v s = aeseError m p v s' := by simp only [aeseError, hkey, hin, hiv]
  cases hs : aeseError m p v s with
  | some k => rw [aeseRule_of_error b hs, aeseRule_of_error b (herr ▸ hs)]
  | none =>
    obtain ⟨d, hpad, -, -, hr⟩ := aeseRule_of_no_error b hs
    obtain ⟨d', hpad', -, -, hr'⟩ := aeseRule_of_no_error b (herr ▸ hs)
    rw [paddingFill, hin, State.rand_congr _ _ hn hd, ← paddingFill, hpad'] at hpad
    cases hpad
    rw [hr, hr']
    simp only [wrapped, prependIv, hi, he, hkey, hpar]

end

/-! ## What a draw can decide (R216, R270) -/

theorem resolveIvDec_result_congr (m : Mode) (v : Policy) (d : Bytes) (s s' : State) :
    (resolveIvDec m v d s).2 = (resolveIvDec m v d s').2 := by
  unfold resolveIvDec
  cases needsIv m with
  | false => rfl
  | true =>
    cases v with
    | explicit | flag0 => rfl
    | flag1 =>
      simp only [if_true]
      split <;> rfl

/-- Every command but AESE and PAD.ISO10126 has the same result whatever would be drawn: IVRE has none. -/
theorem ruleOf_result_of_source {i : Instr} (ha : ∀ m p v b, i ≠ .aeseOf m p v b) (hp : i ≠ .padIso10126) (s : State)
    (bytes : Bytes) (n : Nat) : (ruleOf i { s with entropy := bytes, draws := n }).2 = (ruleOf i s).2 := by
  by_cases hf : isFacade i = true
  · obtain ⟨m, p, v, b, rfl | rfl⟩ := isFacade_cases i hf
    · exact absurd rfl (ha m p v b)
    · rw [ruleOf_aesdOf]
      exact aesdRule_result_congr m p v b rfl rfl rfl rfl
  · cases i with
    | padIso10126 => exact absurd rfl hp
    | aeseX | aeseF | aeseXB64 | aeseFB64 | aesdX | aesdF | aesdXB64 | aesdFB64 => simp [isFacade] at hf
    | kexp => simp only [ruleOf, kexpRule]; split <;> rfl
    | ivrd m v => exact resolveIvDec_result_congr m v s.inBuf _ s
    | _ => rfl

theorem exec_next_congr {i : Instr} {s s' t t' : State} (h : exec i s = .next t) (h' : exec i s' = .next t')
    (hr : (ruleOf i s).2 = (ruleOf i s').2) : t.outBuf = t'.outBuf ∧ t.errCode = t'.errCode := by
  cases hs : (ruleOf i s').2 with
  | ok res =>
    obtain ⟨e, o⟩ := exec_next_of_ok h (hr.trans hs)
    obtain ⟨e', o'⟩ := exec_next_of_ok h' hs
    exact ⟨o.trans o'.symm, e.trans e'.symm⟩
  | error k =>
    obtain ⟨e, o⟩ := exec_next_of_error h (hr.trans hs)
    obtain ⟨e', o'⟩ := exec_next_of_error h' hs
    exact ⟨o.trans o'.symm, e.trans e'.symm⟩

/-- How long AESE's result is depends on the lengths of the IV and of the ciphertext only (R218). -/
theorem wrapped_length_congr (b : Bool) {s s' : State} {c c' : Bytes} (he : s.embed = s'.embed)
    (hi : s.ivBuf.length = s'.ivBuf.length) (hc : c.length = c'.length) :
    (wrapped b s c).length = (wrapped b s' c').length := by
  have hp : (prependIv s c).length = (prependIv s' c').length := by
    unfold prependIv
    rw [he]
    split
    · rw [List.length_append, List.length_append, hi, hc]
    · exact hc
  cases b with
  | false => exact hp
  | true => exact (b64Encode_length _).trans (hp ▸ (b64Encode_length _).symm)

/-- An embedded IV has 16 bytes, whatever is drawn (R191). -/
theorem encryptReady_iv_length_congr (m : Mode) (v : Policy) {s s' : State} (hiv : s.ivBuf = s'.ivBuf) :
    (encryptReady m v s).embed = (encryptReady m v s').embed ∧
    (encryptReady m v s).ivBuf.length = (encryptReady m v s').ivBuf.length := by
  unfold encryptReady resolveIvEnc
  cases needsIv m <;> cases v <;> simp [hiv]

/-- Whether AESE fails, with which kind, and how long its result is: a function of its inputs without the draws. -/
theorem exec_aeseOf_length_congr {m : Mode} {p : Scheme} {v : Policy} {b : Bool} {s s' t t' : State}
    (h : exec (.aeseOf m p v b) s = .next t) (h' : exec (.aeseOf m p v b) s' = .next t') (hkey : s.keyBuf = s'.keyBuf)
    (hiv : s.ivBuf = s'.ivBuf) (hin : s.inBuf = s'.inBuf) :
    t.errCode = t'.errCode ∧ t.outBuf.length = t'.outBuf.length := by
  have herr : aeseError m p v s = aeseError m p v s' := by simp only [aeseError, hkey, hin, hiv]
  cases hs : aeseError m p v s with
  | some k =>
    obtain ⟨e, o⟩ := exec_aeseOf_of_error h hs
    obtain ⟨e', o'⟩ := exec_aeseOf_of_error h' (herr ▸ hs)
    exact ⟨e.trans e'.symm, by rw [o, o']⟩
  | none =>
    have hk := (aeseError_eq_none_iff.mp hs).1
    obtain ⟨d, hd, hi, hl, e, o⟩ := exec_aeseOf_of_no_error h hs
    obtain ⟨d', hd', hi', hl', e', o'⟩ := exec_aeseOf_of_no_error h' (herr ▸ hs)
    obtain ⟨hemb, hlen⟩ := encryptReady_iv_length_congr m v hiv
    refine ⟨e.trans e'.symm, o ▸ o' ▸ wrapped_length_congr b hemb hlen ?_⟩
    rw [driveEncrypt_expandKey_length _ hk hi hl, driveEncrypt_expandKey_length _ (hkey ▸ hk) hi' hl']
    exact composedPad_length_congr paddingFill_length (by rw [hin, paddingFill_length]) hd (hin ▸ hd')

end Sys2Proof.Machine

namespace Sys2Proof.Proofs

open Sys2Proof Sys2Proof.Machine

/-- Settles O46: each primitive command's result is what AESE's rule makes at that step. -/
theorem aeseEqualsThePipeline : Obligations.AeseEqualsThePipeline := by
  intro s s1 s2 s3 s4 s5 s6 m p v b h1 e1 h2 h3 e3 h4 e4 h5 h6
  obtain ⟨hk, rfl⟩ := exec_kexp_of_errCode h1 e1
  rw [exec_ivre, resolveIvEnc_resultState, ← encryptReady] at h2
  have hr {y c : Bytes} := aeseRule_of_ready (m := m) (p := p) (v := v) (y := y) (c := c) b hk
  generalize encryptReady m v s = r at h2 hr
  obtain rfl := Host.Outcome.next.inj h2
  obtain ⟨y, hy, rfl⟩ := pad_stage_of_errCode h3 e3
  obtain ⟨c, hc, rfl⟩ := exec_mencOf_of_errCode h4 e4
  rw [exec_ivpp] at h5
  obtain rfl := Host.Outcome.next.inj h5
  refine ⟨_, (exec_aeseOf m p v b s).trans (runCommand_of_ok true _ _ _ _ (hr hy hc)), rfl, ?_⟩
  obtain ⟨hout, hiv, hemb, hdraws, hent⟩ := b64_stage h6
  rw [hout, hiv, hemb, hdraws, hent]
  exact ⟨rfl, rfl, rfl, rfl, rfl⟩

/-- Settles O47: a facade rule that answers has destroyed the schedule, and so does the error entry of a facade command. -/
theorem facadeDestroysTheSchedule : Obligations.FacadeDestroysTheSchedule := by
  refine ⟨fun i s t hi h => ?_, fun w k s t hd h => ?_⟩
  · obtain ⟨-, -, -, hkey, -⟩ := exec_next_frame h
    obtain ⟨u, res, hu, rfl⟩ | ⟨u, k, -, rfl⟩ := exec_next h
    · obtain ⟨u', rfl⟩ := ruleOf_facade_destroys hi hu
      exact ⟨rfl, rfl, rfl, hkey⟩
    · rw [hi]
      exact ⟨rfl, rfl, rfl, rfl⟩
  · rw [executeWord_of_error s hd] at h
    obtain rfl := Host.Outcome.next.inj h
    exact ⟨rfl, rfl, rfl, rfl⟩

/-- Settles O48: the two rules step by step. -/
theorem facadeIsAFunctionOfItsInputs : Obligations.FacadeIsAFunctionOfItsInputs := by
  intro i s s' t t' hi hkey hiv hin hpar hent hdraws h h'
  have hr : (ruleOf i s).2 = (ruleOf i s').2 ∧ (ruleOf i s).1.draws = (ruleOf i s').1.draws := by
    obtain ⟨m, p, v, b, rfl | rfl⟩ := isFacade_cases i hi
    · rw [ruleOf_aeseOf]
      exact aeseRule_congr m v hiv hent hdraws p b hkey hin hpar
    · rw [ruleOf_aesdOf]
      exact ⟨aesdRule_result_congr m p v b hkey hiv hin hpar,
        by rw [(aesdRule_source m p v b s).1, (aesdRule_source m p v b s').1, hdraws]⟩
  obtain ⟨ho, he⟩ := exec_next_congr h h' hr.1
  exact ⟨ho, he, by rw [(exec_next_source h).1, (exec_next_source h').1, hr.2]⟩

/-- Settles O49: AESE and PAD.ISO10126 draw as many bytes, whatever they are; no other command's result sees a draw. -/
theorem failureNeverDependsOnADraw : Obligations.FailureNeverDependsOnADraw := by
  intro i s t t' bytes n h h'
  by_cases ha : ∃ m p v b, i = .aeseOf m p v b
  · obtain ⟨m, p, v, b, rfl⟩ := ha
    obtain ⟨he, hl⟩ := exec_aeseOf_length_congr h h' rfl rfl rfl
    exact ⟨he, hl, fun hno => absurd rfl (hno m p v b)⟩
  · have ha' : ∀ m p v b, i ≠ .aeseOf m p v b := fun m p v b hi => ha ⟨m, p, v, b, hi⟩
    by_cases hp : i = .padIso10126
    · subst hp
      obtain rfl := Host.Outcome.next.inj h
      obtain rfl := Host.Outcome.next.inj h'
      exact ⟨rfl, by simp [padWithIso10126], fun _ hno => absurd rfl hno⟩
    · obtain ⟨ho, he⟩ := exec_next_congr h h' (ruleOf_result_of_source ha' hp s bytes n).symm
      exact ⟨he, by rw [ho], fun _ _ => ho⟩

end Sys2Proof.Proofs
